-- ==== Sys2Proof/Word.lean ====
section
/-! DEFINITION. The widths of the words the block handles (00_scope.md R5, R8): a byte on the bus, a calibration word
or humidity sample, a temperature or pressure sample, a bus device address. -/

namespace Sys2Proof

/-- A byte, `u8` (R8). -/
abbrev Byte := BitVec 8

/-- A 16-bit raw word: a calibration word or `D3` (R5 `W_CAL`, `W_D3`). -/
abbrev Word16 := BitVec 16

/-- A 24-bit raw sample: `D1` or `D2` (R5 `W_D1`, `W_D2`). -/
abbrev Word24 := BitVec 24

/-- A 7-bit bus device address (R5, 20_memory.md R50). -/
abbrev BusAddr := BitVec 7

end Sys2Proof
end

