-- ==== Sys2Proof/Syntax.lean ====
section
/-! DEFINITION. The instructions (one constructor per row of spec/opcode_table.json: six host operations and eleven
bus command bytes, 00_scope.md R1), and the alphabets of the two agents around the block: the host's requests and
reads, the bus events and their answers. -/

namespace Sys2Proof

/-- One constructor per row of the opcode table. The first six are the host operations (30_encoding.md R75), the other
eleven the command bytes the controller emits (R71). `getRh` carries the temperature operand `ARG_T`, an exact rational
with no range limit, absent for the word 0x03 (R76). -/
inductive Instr where
  | init
  | getT
  | getTp
  | getRh (arg : Option Rat)
  | getTph
  | getTh
  | busResetTp
  | busPromReadC0
  | busPromReadC1
  | busPromReadC2
  | busPromReadC3
  | busPromReadC4
  | busPromReadC5
  | busConvertT
  | busConvertP
  | busResetRh
  | busMeasureRh
  deriving DecidableEq, Repr

/-- The operation an accepted request latches in `OP` (10_state.md R35). -/
inductive Op where
  | init | getT | getTp | getRh | getTph | getTh
  deriving DecidableEq, Repr

/-- A request as the host presents it: one 8-bit word and possibly one operand (30_encoding.md R74, R76). -/
structure Request where
  word : Byte
  operand : Option Rat
  deriving DecidableEq, Repr

/-- The two encoding domains (30_encoding.md R70): inbound host requests and outbound bus command bytes. -/
inductive Wire where
  | request (r : Request)
  | command (c : Byte)
  deriving DecidableEq, Repr

/-- The two sub-devices on the bus (60_exceptions.md R217). -/
inductive Device where
  | tp | rh
  deriving DecidableEq, Repr

/-- A bus event: one call of a bus primitive (00_scope.md R10, 20_memory.md R51). `sleep` carries its duration in
milliseconds (70_reset_and_hazards.md R241: a model records a Sleep event with its argument). -/
inductive BusEvent where
  | busOpen (a : BusAddr)
  | busWrite (a : BusAddr) (c : Byte)
  | busRead (a : BusAddr) (n : Nat)
  | busBlockRead (a : BusAddr) (n : Nat)
  | sleep (ms : Rat)
  deriving DecidableEq, Repr

/-- What the bus agent answers (20_memory.md R51, R52). The byte list may have any length: an `ok` with a wrong count
is decoded as an error by the block (R52, 93_implementation_defined.md I3). -/
inductive BusAnswer where
  | ok (bytes : List Byte)
  | err
  deriving DecidableEq, Repr, Inhabited

/-- One entry of the bus-event history: the event and its answer. -/
structure BusRecord where
  event : BusEvent
  answer : BusAnswer
  deriving DecidableEq, Repr

/-- Whose turn it is (DESIGN CHOICE, log 1): the agents of 10_state.md R20 and 60_exceptions.md R221, interleaved.
* `request`: the host presents a request now, whatever `BUSY` says (R206, R209);
* `read`: the host reads a host index now (10_state.md R39);
* `controller`: the controller makes its next move;
* `await`: the host waits until `BUSY` = 0 (70_reset_and_hazards.md R232 step 3), the controller moving meanwhile;
* `blockReset`: power-on or instantiation (R230). -/
inductive Turn where
  | request (r : Request)
  | read (index : Nat)
  | controller
  | await
  | blockReset
  deriving DecidableEq, Repr

end Sys2Proof
end

