-- ==== Sys2Proof/Config.lean ====
section
/-! DEFINITION. The implementation parameters of 00_scope.md R5, and the one free value of the model: the bus agent's
answers (20_memory.md R52). -/

namespace Sys2Proof

/-- The parameters of 00_scope.md R5 that an implementation fixes before reset. They are no architectural state (R5,
10_state.md R36); the model carries them beside the state, and no step writes them (log 7). The widths and `N_CAL` are
fixed by R5 and stand in the types. -/
structure Config where
  /-- `ADDR_TP`. -/
  addrTp : BusAddr
  /-- `ADDR_RH`. -/
  addrRh : BusAddr
  /-- `CONV_WAIT` in milliseconds, any duration of at least 30 ms. -/
  convWaitMs : Rat
  /-- `TOL`, the conformance tolerance of a floating-point implementation (92_eei_decisions.md D30). -/
  tol : Rat
  deriving DecidableEq, Repr

/-- The defaults of 00_scope.md R5. -/
def Config.default : Config :=
  { addrTp := 0x76#7, addrRh := 0x40#7, convWaitMs := 30, tol := 1 / 1000000 }

/-- The configured address of a sub-device (60_exceptions.md R217). -/
def Config.addr (c : Config) : Device → BusAddr
  | .tp => c.addrTp
  | .rh => c.addrRh

/-- FREE VALUE (log 2). The bus agent's `n`-th answer that no script gives: a draw, of which the block assumes nothing
(20_memory.md R52; 93_implementation_defined.md I1, I2, I3). Nothing can be proved of its value. -/
opaque Config.busDraw : Nat → BusAnswer

end Sys2Proof
end

