-- ==== Sys2Proof/WellFormed.lean ====
section
/-! DEFINITION. Which terms are well formed: a request of the host (30_encoding.md R77), a host index (20_memory.md
R58), a configuration (00_scope.md R5), an instruction. -/

namespace Sys2Proof

/-- The seven legal request words (30_encoding.md R77). -/
def legalWords : List Byte := [0x00#8, 0x01#8, 0x02#8, 0x03#8, 0x04#8, 0x05#8, 0x0B#8]

/-- A request the block can accept (30_encoding.md R77): a legal word, with an operand exactly for the word 0x0B
(60_exceptions.md R221: "an operand iff w = 0x0B"). -/
def Request.wellFormed (r : Request) : Bool :=
  legalWords.contains r.word && (r.operand.isSome == (r.word == 0x0B#8))

/-- The reserved host indices below 0x20 (20_memory.md R58). -/
def reservedIndices : List Nat :=
  [0x07, 0x0B, 0x0C, 0x0D, 0x0E, 0x0F, 0x15, 0x16, 0x17, 0x1E, 0x1F]

/-- A host index the register map lists (20_memory.md R58). -/
def indexListed (i : Nat) : Bool := decide (i < 0x20) && !reservedIndices.contains i

/-- A configuration of this block: `CONV_WAIT` of at least 30 ms (00_scope.md R5, 70_reset_and_hazards.md R234). -/
def Config.wellFormed (c : Config) : Bool := decide (30 ≤ c.convWaitMs)

/-- Every term of `Instr` is well formed: the only operand, `ARG_T`, has no range limit (30_encoding.md R76). -/
def Instr.wellFormed : Instr → Bool
  | .init => true
  | .getT => true
  | .getTp => true
  | .getRh _ => true
  | .getTph => true
  | .getTh => true
  | .busResetTp => true
  | .busPromReadC0 => true
  | .busPromReadC1 => true
  | .busPromReadC2 => true
  | .busPromReadC3 => true
  | .busPromReadC4 => true
  | .busPromReadC5 => true
  | .busConvertT => true
  | .busConvertP => true
  | .busResetRh => true
  | .busMeasureRh => true

end Sys2Proof
end

