-- ==== Sys2Proof/Decode.lean ====
section
/-! DEFINITION. The decoder of both encoding domains (30_encoding.md R70), total and rejecting by name, and the encoder,
written from the same tables (R71, R75). -/

namespace Sys2Proof

/-- Why a word is no instruction. The first four are the illegal requests of 30_encoding.md R77, the fifth is a byte
outside the command table of R71, the sixth a bit string that is not one byte long. -/
inductive DecodeError where
  | reservedBits
  | reservedOpsel
  | argvNotAllowed
  | operandMissing
  | notACommand
  | notAByte
  deriving DecidableEq, Repr

/-- What the decoder answers. -/
inductive Decoded where
  | instr (i : Instr)
  | illegal (e : DecodeError)
  deriving DecidableEq, Repr

/-- `OPSEL`, bits [2:0] of a request word (30_encoding.md R74). -/
def opsel (w : Byte) : Nat := (w.extractLsb' 0 3).toNat

/-- `ARGV`, bit [3] of a request word (30_encoding.md R74). -/
def argv (w : Byte) : Bool := w.getLsbD 3

/-- Bits [7:4] of a request word, which must be 0000 (30_encoding.md R74). -/
def reservedField (w : Byte) : BitVec 4 := w.extractLsb' 4 4

/-- GET_RH with its operand: `ARGV` = 0 makes `ARG_T` absent, whatever is presented beside the word (log 9); `ARGV` = 1
needs an operand (30_encoding.md R76, R77). -/
def decodeGetRh (r : Request) : Decoded :=
  if argv r.word then
    match r.operand with
    | some t => .instr (.getRh (some t))
    | none => .illegal .operandMissing
  else .instr (.getRh none)

/-- The decoder of host requests, total on every byte (30_encoding.md R78, with the operand check of R77). -/
def decodeRequest (r : Request) : Decoded :=
  if reservedField r.word ≠ 0#4 then .illegal .reservedBits
  else if 6 ≤ opsel r.word then .illegal .reservedOpsel
  else if argv r.word && decide (opsel r.word ≠ 3) then .illegal .argvNotAllowed
  else
    match opsel r.word with
    | 0 => .instr .init
    | 1 => .instr .getT
    | 2 => .instr .getTp
    | 3 => decodeGetRh r
    | 4 => .instr .getTph
    | 5 => .instr .getTh
    | _ => .illegal .reservedOpsel

/-- The decoder of bus command bytes: the eleven rows of 30_encoding.md R71, every other byte rejected (R73). -/
def decodeCommand (c : Byte) : Decoded :=
  if c = 0x1E#8 then .instr .busResetTp
  else if c = 0xA2#8 then .instr .busPromReadC0
  else if c = 0xA4#8 then .instr .busPromReadC1
  else if c = 0xA6#8 then .instr .busPromReadC2
  else if c = 0xA8#8 then .instr .busPromReadC3
  else if c = 0xAA#8 then .instr .busPromReadC4
  else if c = 0xAC#8 then .instr .busPromReadC5
  else if c = 0x5A#8 then .instr .busConvertT
  else if c = 0x4A#8 then .instr .busConvertP
  else if c = 0xFE#8 then .instr .busResetRh
  else if c = 0xE5#8 then .instr .busMeasureRh
  else .illegal .notACommand

/-- The decoder of either domain (30_encoding.md R70). -/
def decode : Wire → Decoded
  | .request r => decodeRequest r
  | .command c => decodeCommand c

/-- The encoder: request words of 30_encoding.md R75 with the operand of R76, command bytes of R71. -/
def encode : Instr → Wire
  | .init => .request { word := 0x00#8, operand := none }
  | .getT => .request { word := 0x01#8, operand := none }
  | .getTp => .request { word := 0x02#8, operand := none }
  | .getRh none => .request { word := 0x03#8, operand := none }
  | .getRh (some t) => .request { word := 0x0B#8, operand := some t }
  | .getTph => .request { word := 0x04#8, operand := none }
  | .getTh => .request { word := 0x05#8, operand := none }
  | .busResetTp => .command 0x1E#8
  | .busPromReadC0 => .command 0xA2#8
  | .busPromReadC1 => .command 0xA4#8
  | .busPromReadC2 => .command 0xA6#8
  | .busPromReadC3 => .command 0xA8#8
  | .busPromReadC4 => .command 0xAA#8
  | .busPromReadC5 => .command 0xAC#8
  | .busConvertT => .command 0x5A#8
  | .busConvertP => .command 0x4A#8
  | .busResetRh => .command 0xFE#8
  | .busMeasureRh => .command 0xE5#8

/-- The byte on the wire of either domain. -/
def Wire.byte : Wire → Byte
  | .request r => r.word
  | .command c => c

/-- The PROM read command that fetches `CAL[k]`: `0xA2 + 2*k` (30_encoding.md R72). -/
def promCommand (k : Nat) : Byte := 0xA2#8 + BitVec.ofNat 8 (2 * k)

/-- The sub-device a command byte goes to (30_encoding.md R73): 0xFE and 0xE5 to the RH sub-device, the others to TP. -/
def commandDevice (c : Byte) : Device := if c = 0xFE#8 ∨ c = 0xE5#8 then .rh else .tp

/-- The wire content whose bits are `w` in the numbering of spec/opcode_table.json: a command byte if R71 lists it, else
a request word, whose operand (zeros above the byte) is the rational 0 when `ARGV` says that one follows. -/
def tableWire (w : Nat) : Wire :=
  let b := BitVec.ofNat 8 w
  match decodeCommand b with
  | .instr _ => .command b
  | .illegal _ => .request { word := b, operand := if argv b then some 0 else none }

/-- The instruction the decoder reads from a table word of `nbits` bits: every row of spec/opcode_table.json is one
byte. -/
def decodeTableWord (nbits w : Nat) : Option Instr :=
  if nbits = 8 ∧ w < 256 then
    match decode (tableWire w) with
    | .instr i => some i
    | .illegal _ => none
  else none

end Sys2Proof
end

