-- ==== Sys2Proof/Machine/State.lean ====
section
/-! DEFINITION. The state of the block as plain data (10_state.md), with the model's own fields for the two agents around
it, and the state after block reset (R38). -/

namespace Sys2Proof.Machine

/-- `STATE` (10_state.md R25). -/
inductive InitState where
  | uninit | ready | failed
  deriving DecidableEq, Repr

/-- `FAULT_CODE`: 0 none, 1 NOT_READY, 2 ILLEGAL, 3 OVERLAP (10_state.md R31). -/
inductive FaultCode where
  | none | notReady | illegal | overlap
  deriving DecidableEq, Repr

/-- `REGIME`: 0 none, 1 HIGH, 2 LOW, 3 VERYLOW (10_state.md R30). -/
inductive Regime where
  | none | high | low | veryLow
  deriving DecidableEq, Repr

/-- The fields of the STATUS word (10_state.md R32), each under its own name. -/
structure Status where
  /-- `STATE` (R25). -/
  state : InitState
  /-- `BUSY` (R26). -/
  busy : Bool
  /-- `FAULT`, sticky (R31). -/
  fault : Bool
  /-- `FAULT_CODE`, sticky (R31). -/
  faultCode : FaultCode
  /-- `CAL_COUNT`, an integer 0 .. 6 (R24). -/
  calCount : Nat
  /-- `ERR_INIT` (R31). -/
  errInit : Bool
  /-- `ERR_T` (R31). -/
  errT : Bool
  /-- `ERR_P` (R31). -/
  errP : Bool
  /-- `ERR_RH` (R31). -/
  errRh : Bool
  /-- `V_DT` (R29). -/
  vDt : Bool
  /-- `V_TEMP` (R29). -/
  vTemp : Bool
  /-- `V_T` (R29). -/
  vT : Bool
  /-- `V_P`, for `RES_P` and the six diagnostic registers together (R29). -/
  vP : Bool
  /-- `V_RH` (R29). -/
  vRh : Bool
  /-- `REGIME` (R30). -/
  regime : Regime
  /-- `V_D2` (R27). -/
  vD2 : Bool
  /-- `V_D1` (R27). -/
  vD1 : Bool
  /-- `V_D3` (R27). -/
  vD3 : Bool
  deriving DecidableEq, Repr

/-- The calibration file `CAL[0..5]` (10_state.md R22). `none` is the spec's "no value" (R22, R38). -/
structure CalFile where
  c0 : Option Word16
  c1 : Option Word16
  c2 : Option Word16
  c3 : Option Word16
  c4 : Option Word16
  c5 : Option Word16
  deriving DecidableEq, Repr

/-- The raw sample registers (10_state.md R27). `none` is the spec's "holds no value". -/
structure RawRegs where
  d2 : Option Word24
  d1 : Option Word24
  d3 : Option Word16
  deriving DecidableEq, Repr

/-- The result registers, each of type `Opt τ` (10_state.md R28), holding exact values (00_scope.md R6). -/
structure ResultRegs where
  dt : Option Int
  temp : Option Rat
  t : Option Rat
  p : Option Rat
  rh : Option Rat
  off : Option Rat
  sens : Option Rat
  t2 : Option Rat
  off2 : Option Rat
  sens2 : Option Rat
  tempc : Option Rat
  deriving DecidableEq, Repr

/-- What a host read returns (20_memory.md R58): a value of the register's type, or `absent`. -/
inductive RegValue where
  | status (v : BitVec 32)
  | word16 (v : Word16)
  | word24 (v : Word24)
  | int (v : Int)
  | rat (v : Rat)
  | absent
  deriving DecidableEq, Repr

/-- What the block returns to the host (60_exceptions.md R221): a request is accepted or refused with a fault, a read
returns a register value or `absent`. -/
inductive Reply where
  | accepted (o : Op)
  | refused (c : FaultCode)
  | value (index : Nat) (v : RegValue)
  deriving DecidableEq, Repr

/-- The whole machine. The first ten fields are the spec's state; `cfg` is the configuration of 00_scope.md R5 (log 7);
the last five are the model's own: the agents' inputs and what the outside has seen (log 1, 2, 12). -/
structure State where
  /-- STATUS by its fields (10_state.md R32). -/
  status : Status
  /-- `CAL[0..5]` (R22). -/
  cal : CalFile
  /-- `D2`, `D1`, `D3` (R27). -/
  raw : RawRegs
  /-- `RES_*` (R28). -/
  res : ResultRegs
  /-- The hidden sequencer step `seq`, 0 .. 16 (R33). -/
  seq : Nat
  /-- The hidden handle bit `H_TP` (R34). -/
  hTp : Bool
  /-- The hidden handle bit `H_RH` (R34). -/
  hRh : Bool
  /-- The hidden latch `OP` (R35). -/
  op : Option Op
  /-- The hidden latch `ARG_T`, of type `Opt ℚ` (R35). -/
  argT : Option Rat
  /-- The configuration (00_scope.md R5). -/
  cfg : Config
  /-- Whose turn is next (log 1). When it is empty the controller moves while `BUSY` = 1, else the block waits. -/
  schedule : List Turn
  /-- The bus agent's coming answers that are already given, one per event that is no Sleep (log 2). -/
  script : List BusAnswer
  /-- How many answers were drawn beyond the script (log 2). -/
  draws : Nat
  /-- The bus-event history in issue order (20_memory.md R60, 70_reset_and_hazards.md R240). -/
  history : List BusRecord
  /-- What the block has returned to the host, oldest first (60_exceptions.md R221). -/
  replies : List Reply
  deriving DecidableEq, Repr

/-- Why a step stops. None of these is raised from a state that a run reaches (Safety.lean `Inv`), and all are SAFE: the
model stops where the spec says the case never occurs. -/
inductive Fault where
  /-- A conversion meets a calibration or result register that holds no value: raised by the sample reads of ACQ_T and
  ACQ_P (Temperature.lean, Pressure.lean). 10_state.md R22: "A conversion never reads such a register". Safe (log 5). -/
  | absentOperand
  /-- `BUSY` = 1 while `OP` holds no value: raised by the sequencer (Sequencer.lean). 10_state.md R35: `OP` holds the
  operation while `BUSY` = 1. Safe (log 5). -/
  | noOperation
  /-- A bus command where the running operation's event list does not stand at it: raised by the eleven command
  meanings. 30_encoding.md R70, R71: only the controller produces a command byte, at its place. Safe (log 4). -/
  | outOfSequence
  deriving DecidableEq, Repr

/-- Why an instruction is refused by the MODEL (a request the BLOCK refuses is a next state with the fault recorded). -/
inductive Refusal where
  /-- An instruction without a meaning in the model: raised by an arm of `exec`. No arm raises it. Safe. -/
  | notModelled (mnemonic : String)
  /-- An event list holds a byte outside 30_encoding.md R71: raised by the sequencer. No list holds one (R73). Safe. -/
  | unlistedCommand (c : Byte)
  deriving DecidableEq, Repr

/-- One step's outcome on this machine. -/
abbrev Result := Host.Outcome State Fault Refusal

/-- STATUS after block reset: every field 0 (10_state.md R32, R38). -/
def Status.reset : Status :=
  { state := .uninit, busy := false, fault := false, faultCode := .none, calCount := 0,
    errInit := false, errT := false, errP := false, errRh := false,
    vDt := false, vTemp := false, vT := false, vP := false, vRh := false, regime := .none,
    vD2 := false, vD1 := false, vD3 := false }

/-- `CAL[0..5]` <- no value (10_state.md R38, 40_init.md R101). -/
def CalFile.empty : CalFile :=
  { c0 := none, c1 := none, c2 := none, c3 := none, c4 := none, c5 := none }

/-- `D2`, `D1`, `D3` with no value (10_state.md R38). -/
def RawRegs.empty : RawRegs := { d2 := none, d1 := none, d3 := none }

/-- Every `RES_*` with no value (10_state.md R38). -/
def ResultRegs.empty : ResultRegs :=
  { dt := none, temp := none, t := none, p := none, rh := none, off := none, sens := none, t2 := none,
    off2 := none, sens2 := none, tempc := none }

/-- The machine right after block reset under a given configuration (10_state.md R38, 70_reset_and_hazards.md R230), with
no turn, no answer and no record yet. -/
def State.resetWith (c : Config) : State :=
  { status := Status.reset, cal := CalFile.empty, raw := RawRegs.empty, res := ResultRegs.empty, seq := 0,
    hTp := false, hRh := false, op := none, argT := none, cfg := c, schedule := [], script := [], draws := 0,
    history := [], replies := [] }

/-- The machine right after block reset, configured with the defaults of 00_scope.md R5 (log 7). -/
def State.reset : State := State.resetWith Config.default

end Sys2Proof.Machine
end

