-- ==== Sys2Proof/Machine/Flags.lean ====
section
/-! DEFINITION. The flags of the block: the STATUS word (10_state.md R32), what acceptance clears (R29), the error flags
(60_exceptions.md R201), and recording a fault (R207), which is all this block has in the place of taking an exception
(R211: it saves nothing and transfers no control). -/

namespace Sys2Proof.Machine

/-- The two bits of `STATE` (10_state.md R32). -/
def stateBits : InitState → BitVec 2
  | .uninit => 0#2
  | .ready => 1#2
  | .failed => 2#2

/-- The four bits of `FAULT_CODE` (10_state.md R31). -/
def faultCodeBits : FaultCode → BitVec 4
  | .none => 0#4
  | .notReady => 1#4
  | .illegal => 2#4
  | .overlap => 3#4

/-- The two bits of `REGIME` (10_state.md R30). -/
def regimeBits : Regime → BitVec 2
  | .none => 0#2
  | .high => 1#2
  | .low => 2#2
  | .veryLow => 3#2

/-- The STATUS word, bit 31 first (10_state.md R32). Bits [31:26] and [7] are reserved and read 0. -/
def statusWord (st : Status) : BitVec 32 :=
  0#6 ++ BitVec.ofBool st.vD3 ++ BitVec.ofBool st.vD1 ++ BitVec.ofBool st.vD2 ++ regimeBits st.regime
    ++ BitVec.ofBool st.vRh ++ BitVec.ofBool st.vP ++ BitVec.ofBool st.vT ++ BitVec.ofBool st.vTemp
    ++ BitVec.ofBool st.vDt ++ faultCodeBits st.faultCode ++ BitVec.ofBool st.errRh ++ BitVec.ofBool st.errP
    ++ BitVec.ofBool st.errT ++ BitVec.ofBool st.errInit ++ 0#1 ++ BitVec.ofNat 3 st.calCount
    ++ BitVec.ofBool st.fault ++ BitVec.ofBool st.busy ++ stateBits st.state

/-- What acceptance clears in STATUS: every valid bit, `REGIME` and the four error flags (10_state.md R29). -/
def Status.cleared (st : Status) : Status :=
  { st with
    vDt := false, vTemp := false, vT := false, vP := false, vRh := false, vD2 := false, vD1 := false,
    vD3 := false, regime := .none, errInit := false, errT := false, errP := false, errRh := false }

/-- `raise Fault(c)`: the first code is kept, `FAULT` is set (60_exceptions.md R207). -/
def Status.withFault (c : FaultCode) (st : Status) : Status :=
  { st with faultCode := if st.fault then st.faultCode else c, fault := true }

/-- The phases in which a bus error is recorded (60_exceptions.md R201, R210). -/
inductive Phase where
  | init | acqT | acqP | acqRh
  deriving DecidableEq, Repr

/-- The error flag a phase records, and for INIT the state FAILED (60_exceptions.md R201; 40_init.md R104). -/
def Status.withError (ph : Phase) (st : Status) : Status :=
  match ph with
  | .init => { st with state := .failed, errInit := true }
  | .acqT => { st with errT := true }
  | .acqP => { st with errP := true }
  | .acqRh => { st with errRh := true }

end Sys2Proof.Machine
end

