-- ==== Sys2Proof/Machine/Operands.lean ====
section
/-! DEFINITION. The operand forms: big-endian words read off the bus (00_scope.md R9), the registers of the calibration
file by number (10_state.md R22), and the host's register view by index (20_memory.md R58). -/

namespace Sys2Proof.Machine

/-- `be16([b0, b1]) = b0 * 2^8 + b1` (00_scope.md R9). -/
def be16 (b0 b1 : Byte) : Word16 := b0 ++ b1

/-- `be24([b0, b1, b2]) = b0 * 2^16 + b1 * 2^8 + b2` (00_scope.md R9). -/
def be24 (b0 b1 b2 : Byte) : Word24 := b0 ++ b1 ++ b2

/-- Whether an answer is `ok` with exactly `n` bytes; any other answer is an error (20_memory.md R52). An open or a write
expects none (log 10). -/
def answerOk (n : Nat) : BusAnswer → Bool
  | .ok bytes => bytes.length == n
  | .err => false

/-- A 2-byte read as one word, or the error (20_memory.md R52, R53, R54). -/
def answer16 : BusAnswer → Option Word16
  | .ok [b0, b1] => some (be16 b0 b1)
  | .ok _ => none
  | .err => none

/-- A 3-byte read as one word, or the error (20_memory.md R52, R53, R54). -/
def answer24 : BusAnswer → Option Word24
  | .ok [b0, b1, b2] => some (be24 b0 b1 b2)
  | .ok _ => none
  | .err => none

/-- `CAL[k]`, `none` where it holds no value (10_state.md R22); there is no register beyond 5. -/
def CalFile.get (k : Nat) (c : CalFile) : Option Word16 :=
  match k with
  | 0 => c.c0
  | 1 => c.c1
  | 2 => c.c2
  | 3 => c.c3
  | 4 => c.c4
  | 5 => c.c5
  | _ => none

/-- `CAL[k] <- v` (40_init.md R102); there is no register beyond 5. -/
def CalFile.set (k : Nat) (v : Word16) (c : CalFile) : CalFile :=
  match k with
  | 0 => { c with c0 := some v }
  | 1 => { c with c1 := some v }
  | 2 => { c with c2 := some v }
  | 3 => { c with c3 := some v }
  | 4 => { c with c4 := some v }
  | 5 => { c with c5 := some v }
  | _ => c

/-- A 16-bit register's value as a read returns it. -/
def ofWord16 : Option Word16 → RegValue
  | some v => .word16 v
  | none => .absent

/-- A 24-bit register's value as a read returns it. -/
def ofWord24 : Option Word24 → RegValue
  | some v => .word24 v
  | none => .absent

/-- An integer register's value as a read returns it. -/
def ofInt : Option Int → RegValue
  | some v => .int v
  | none => .absent

/-- A rational register's value as a read returns it. -/
def ofRat : Option Rat → RegValue
  | some v => .rat v
  | none => .absent

/-- A register behind a valid bit reads as `absent` while the bit is 0 (10_state.md R39). -/
def gated (valid : Bool) (v : RegValue) : RegValue := if valid then v else .absent

/-- The host register map (20_memory.md R58) with the reads of 10_state.md R39; `none` for an index it does not list. -/
def readRegister (s : State) (index : Nat) : Option RegValue :=
  match index with
  | 0x00 => some (.status (statusWord s.status))
  | 0x01 => some (gated (decide (0 < s.status.calCount)) (ofWord16 s.cal.c0))
  | 0x02 => some (gated (decide (1 < s.status.calCount)) (ofWord16 s.cal.c1))
  | 0x03 => some (gated (decide (2 < s.status.calCount)) (ofWord16 s.cal.c2))
  | 0x04 => some (gated (decide (3 < s.status.calCount)) (ofWord16 s.cal.c3))
  | 0x05 => some (gated (decide (4 < s.status.calCount)) (ofWord16 s.cal.c4))
  | 0x06 => some (gated (decide (5 < s.status.calCount)) (ofWord16 s.cal.c5))
  | 0x08 => some (gated s.status.vD2 (ofWord24 s.raw.d2))
  | 0x09 => some (gated s.status.vD1 (ofWord24 s.raw.d1))
  | 0x0A => some (gated s.status.vD3 (ofWord16 s.raw.d3))
  | 0x10 => some (gated s.status.vDt (ofInt s.res.dt))
  | 0x11 => some (gated s.status.vTemp (ofRat s.res.temp))
  | 0x12 => some (gated s.status.vT (ofRat s.res.t))
  | 0x13 => some (gated s.status.vP (ofRat s.res.p))
  | 0x14 => some (gated s.status.vRh (ofRat s.res.rh))
  | 0x18 => some (gated s.status.vP (ofRat s.res.off))
  | 0x19 => some (gated s.status.vP (ofRat s.res.sens))
  | 0x1A => some (gated s.status.vP (ofRat s.res.t2))
  | 0x1B => some (gated s.status.vP (ofRat s.res.off2))
  | 0x1C => some (gated s.status.vP (ofRat s.res.sens2))
  | 0x1D => some (gated s.status.vP (ofRat s.res.tempc))
  | _ => none

/-- The temperature that corrects a humidity sample (43_humidity.md R173, 44_composite.md R186, R188): the operand
`ARG_T` in GET_RH, the first-order `RES_T` of the same operation in the composites, absent where it is absent. -/
def correctingTemperature (s : State) : Option Rat :=
  match s.op with
  | some .getRh => s.argT
  | _ => if s.status.vT then s.res.t else none

end Sys2Proof.Machine
end

