-- ==== Sys2Proof/Machine/Ops.lean ====
section
/-! DEFINITION. The shared operations of the controller: the event list of each operation, one exchange with the bus
agent, the sequencer's moves (10_state.md R33), acceptance and refusal of a request (60_exceptions.md R207, R209),
completion (70_reset_and_hazards.md R240) and block reset (R230). -/

namespace Sys2Proof.Machine

/-- One entry of an operation's event list. `command` is a BusWrite of one command byte, the reads name the register
they fill. -/
inductive BusStep where
  | openDevice (d : Device)
  | command (c : Byte)
  | waitConversion
  | readCal (k : Nat)
  | readD2
  | readD1
  | readD3
  deriving DecidableEq, Repr

/-- ACQ_T: convert, wait, read (41_temperature.md R121). -/
def acqTList : List BusStep := [.command 0x5A#8, .waitConversion, .readD2]

/-- ACQ_P: convert, wait, read (42_pressure.md R142). -/
def acqPList : List BusStep := [.command 0x4A#8, .waitConversion, .readD1]

/-- ACQ_RH: measure, read; no wait (43_humidity.md R171). -/
def acqRhList : List BusStep := [.command 0xE5#8, .readD3]

/-- The event list of INIT, events 0 .. 15 (40_init.md R102). No wait stands in it (R103). -/
def initList : List BusStep :=
  [.openDevice .tp, .command 0x1E#8,
   .command 0xA2#8, .readCal 0, .command 0xA4#8, .readCal 1, .command 0xA6#8, .readCal 2,
   .command 0xA8#8, .readCal 3, .command 0xAA#8, .readCal 4, .command 0xAC#8, .readCal 5,
   .openDevice .rh, .command 0xFE#8]

/-- The event list of each operation (40_init.md R102; 41_temperature.md R124; 42_pressure.md R141; 43_humidity.md R175;
44_composite.md R186, R188). -/
def eventList : Op → List BusStep
  | .init => initList
  | .getT => acqTList
  | .getTp => acqTList ++ acqPList
  | .getRh => acqRhList
  | .getTph => acqTList ++ acqPList ++ acqRhList
  | .getTh => acqTList ++ acqRhList

/-- Where `seq` jumps when an event of a phase answers `err`: the first event of the next phase that still runs, or past
the last event (10_state.md R33; 40_init.md R104; 42_pressure.md R141; 44_composite.md R186, R188; log 6). -/
def resumeAt : Op → Phase → Nat
  | .init, _ => 16
  | .getT, _ => 3
  | .getTp, _ => 6
  | .getRh, _ => 2
  | .getTph, .acqRh => 8
  | .getTph, _ => 6
  | .getTh, .acqRh => 5
  | .getTh, _ => 3

/-- The event the controller issues next: none while it is idle or past the list's end. -/
def State.nextEvent (s : State) : Option BusStep :=
  if s.status.busy then
    match s.op with
    | some o => (eventList o)[s.seq]?
    | none => none
  else none

/-- The bus agent's coming answer: the script's first, or a draw (20_memory.md R52, log 2). -/
def State.answer (s : State) : BusAnswer :=
  match s.script with
  | a :: _ => a
  | [] => Config.busDraw s.draws

/-- The answer is used up. -/
def State.consume (s : State) : State :=
  match s.script with
  | _ :: rest => { s with script := rest }
  | [] => { s with draws := s.draws + 1 }

/-- An event and its answer go into the history, in issue order (20_memory.md R60). -/
def State.record (e : BusEvent) (a : BusAnswer) (s : State) : State :=
  { s with history := s.history ++ [{ event := e, answer := a }] }

/-- One bus event answered by the bus agent, as a whole (20_memory.md R51, R57). -/
def State.exchange (e : BusEvent) (s : State) : State := (s.consume).record e s.answer

/-- `complete`: `BUSY <- 0` (70_reset_and_hazards.md R240). -/
def State.complete (s : State) : State := { s with status := { s.status with busy := false } }

/-- The operation completes when `seq` has passed its last event (10_state.md R33). -/
def State.settle (s : State) : State :=
  match s.op with
  | some o => if (eventList o).length ≤ s.seq then s.complete else s
  | none => s

/-- After an event answered `ok`: `seq <- seq + 1` (10_state.md R33). -/
def State.advance (s : State) : State := State.settle { s with seq := s.seq + 1 }

/-- `seq` goes to the first event of the next phase that still runs (10_state.md R33). -/
def State.jump (ph : Phase) (s : State) : State :=
  match s.op with
  | some o => { s with seq := resumeAt o ph }
  | none => s

/-- After an event answered `err`: the phase's flag is set and only this phase ends (60_exceptions.md R202, R203). -/
def State.failPhase (ph : Phase) (s : State) : State :=
  ((State.jump ph { s with status := s.status.withError ph })).settle

/-- The block returns something to the host (60_exceptions.md R221). -/
def State.reply (r : Reply) (s : State) : State := { s with replies := s.replies ++ [r] }

/-- `raise Fault(c)` (60_exceptions.md R207). -/
def State.raiseFault (c : FaultCode) (s : State) : State := { s with status := s.status.withFault c }

/-- A refused request: the fault is recorded and reported, nothing else changes (60_exceptions.md R207). -/
def State.refuse (c : FaultCode) (s : State) : State := (s.raiseFault c).reply (.refused c)

/-- An accepted request (60_exceptions.md R209), with the clearing of 10_state.md R29: a raw or result register whose
valid bit is cleared holds no value (R27, R39, log 16). -/
def State.accept (o : Op) (arg : Option Rat) (s : State) : State :=
  State.reply (.accepted o)
    { s with
      status := { s.status.cleared with busy := true }, raw := RawRegs.empty, res := ResultRegs.empty,
      seq := 0, op := some o, argT := arg }

/-- The acceptance checks of a measurement request (60_exceptions.md R209): OVERLAP, then NOT_READY (R204), else it is
accepted. The check for ILLEGAL in between is the decoder's (R205). -/
def admitMeasurement (o : Op) (arg : Option Rat) (s : State) : State :=
  if s.status.busy then s.refuse .overlap
  else if s.status.state = .ready then s.accept o arg
  else s.refuse .notReady

/-- The BusWrite of one command byte, answered (00_scope.md R10; 20_memory.md R56): `ok` goes on with the list, `err` ends
the phase. -/
def State.issueCommand (d : Device) (c : Byte) (ph : Phase) (s : State) : State :=
  let sent := s.exchange (.busWrite (s.cfg.addr d) c)
  if answerOk 0 s.answer then sent.advance else sent.failPhase ph

/-- A command byte goes out only at its place of the running operation's event list (30_encoding.md R70, R71; log 4). -/
def emitCommand (d : Device) (c : Byte) (ph : Phase) (s : State) : Result :=
  if s.nextEvent = some (.command c) then .next (s.issueCommand d c ph) else .fault .outOfSequence

/-- `Sleep(CONV_WAIT)` always answers `ok` and takes no answer of the script (00_scope.md R10, 92_eei_decisions.md D31). -/
def State.waitConversion (s : State) : State :=
  (s.record (.sleep s.cfg.convWaitMs) (.ok [])).advance

/-- A host read has no side effect but its reply; an unlisted index raises ILLEGAL and returns `absent` (10_state.md R39,
60_exceptions.md R205). -/
def State.hostRead (index : Nat) (s : State) : State :=
  match readRegister s index with
  | some v => s.reply (.value index v)
  | none => (s.raiseFault .illegal).reply (.value index .absent)

/-- Block reset: every state element gets the value of 10_state.md R38, with no bus event (70_reset_and_hazards.md R230).
The configuration, the agents' inputs and what the outside has seen are not the block's state (log 15). -/
def State.blockReset (s : State) : State :=
  { State.resetWith s.cfg with
    schedule := s.schedule, script := s.script, draws := s.draws, history := s.history, replies := s.replies }

end Sys2Proof.Machine
end

