-- ==== Sys2Proof/Machine/Composite.lean ====
section
/-! DEFINITION. The composite operations (44_composite.md): their requests. Their events are those of ACQ_T, ACQ_P and
ACQ_RH in one list (Ops.lean `eventList`), so the meanings of those events are shared. -/

namespace Sys2Proof.Machine

/-- `get_tph`, request word 0x04 (44_composite.md R185, R186). Its bus events follow, one a step. -/
def execGetTph (s : State) : Result := .next (admitMeasurement .getTph none s)

/-- `get_th`, request word 0x05 (44_composite.md R187, R188). Its bus events follow, one a step. -/
def execGetTh (s : State) : Result := .next (admitMeasurement .getTh none s)

end Sys2Proof.Machine
end

