-- ==== Sys2Proof/Machine/Compensation.lean ====
section
/-! DEFINITION. The compensation pipeline as pure functions on exact integers and rationals (00_scope.md R6, R7): the
first-order temperature (41_temperature.md R122), the second-order compensation and the pressure (42_pressure.md R143 to
R149), the humidity (43_humidity.md R172, R173), with the constants of 30_encoding.md R82. -/

namespace Sys2Proof.Machine

/-- `K_TREF_SHIFT` (30_encoding.md R82). -/
abbrev kTrefShift : Int := 256
/-- `K_TEMP0` (R82). -/
abbrev kTemp0 : Rat := 2000
/-- `K_TSENS_DIV` = 2^23 (R82). -/
abbrev kTsensDiv : Rat := 8388608
/-- `K_T_DIV` (R82). -/
abbrev kTDiv : Rat := 100
/-- `K_OFF_MUL` = 2^17 (R82). -/
abbrev kOffMul : Rat := 131072
/-- `K_TCO_DIV` = 2^6 (R82). -/
abbrev kTcoDiv : Rat := 64
/-- `K_SENS_MUL` = 2^16 (R82). -/
abbrev kSensMul : Rat := 65536
/-- `K_TCS_DIV` = 2^7 (R82). -/
abbrev kTcsDiv : Rat := 128
/-- `K_TH_LOW` (R82). -/
abbrev kThLow : Rat := 2000
/-- `K_TH_VLOW` (R82). -/
abbrev kThVlow : Rat := -1500
/-- `K_T2L_MUL` (R82). -/
abbrev kT2lMul : Rat := 3
/-- `K_T2L_DIV` = 2^33 (R82). -/
abbrev kT2lDiv : Rat := 8589934592
/-- `K_O2L_MUL` (R82). -/
abbrev kO2lMul : Rat := 61
/-- `K_O2L_DIV` = 2^4 (R82). -/
abbrev kO2lDiv : Rat := 16
/-- `K_S2L_MUL` (R82). -/
abbrev kS2lMul : Rat := 29
/-- `K_S2L_DIV` = 2^4 (R82). -/
abbrev kS2lDiv : Rat := 16
/-- `K_O2V_MUL` (R82). -/
abbrev kO2vMul : Rat := 17
/-- `K_S2V_MUL` (R82). -/
abbrev kS2vMul : Rat := 9
/-- `K_T2H_MUL` (R82). -/
abbrev kT2hMul : Rat := 5
/-- `K_T2H_DIV` = 2^38 (R82). -/
abbrev kT2hDiv : Rat := 274877906944
/-- `K_P_DIV1` = 2^21 (R82). -/
abbrev kPDiv1 : Rat := 2097152
/-- `K_P_DIV2` = 2^15 (R82). -/
abbrev kPDiv2 : Rat := 32768
/-- `K_P_DIV3` (R82). -/
abbrev kPDiv3 : Rat := 100
/-- `K_RH_OFS` (R82). -/
abbrev kRhOfs : Rat := -6
/-- `K_RH_MUL` (R82). -/
abbrev kRhMul : Rat := 125
/-- `K_RH_DIV` = 2^16 (R82). -/
abbrev kRhDiv : Rat := 65536
/-- `K_RH_TC` = 18/100 exactly (R82, 90_conflicts.md C4). -/
abbrev kRhTc : Rat := 18 / 100
/-- `K_RH_TREF` (R82). -/
abbrev kRhTref : Rat := 20

/-- A raw word as an integer: every raw word is unsigned (00_scope.md R6, R8). -/
def rawInt {w : Nat} (v : BitVec w) : Int := (v.toNat : Int)

/-- A raw word as a rational. -/
def rawRat {w : Nat} (v : BitVec w) : Rat := (v.toNat : Rat)

/-- What FIRST_ORDER returns (41_temperature.md R122). -/
structure FirstOrder where
  t : Rat
  temp : Rat
  dt : Int
  deriving DecidableEq, Repr

/-- `dT <- D2 - CAL[4] * 2^8` (41_temperature.md R122). -/
def deltaT (c4 : Word16) (d2 : Word24) : Int := rawInt d2 - rawInt c4 * kTrefShift

/-- `TEMP <- 2000 + dT * CAL[5] / 2^23`, a rational (41_temperature.md R122, 90_conflicts.md C2). -/
def firstTemp (c5 : Word16) (dt : Int) : Rat := kTemp0 + (dt : Rat) * rawRat c5 / kTsensDiv

/-- FIRST_ORDER (41_temperature.md R122). -/
def firstOrder (c4 c5 : Word16) (d2 : Word24) : FirstOrder :=
  let dt := deltaT c4 d2
  let temp := firstTemp c5 dt
  { t := temp / kTDiv, temp := temp, dt := dt }

/-- `OFF <- CAL[1] * 2^17 + CAL[3] * dT / 2^6` (42_pressure.md R143). -/
def offset (c1 c3 : Word16) (dt : Int) : Rat := rawRat c1 * kOffMul + rawRat c3 * (dt : Rat) / kTcoDiv

/-- `SENS <- CAL[0] * 2^16 + CAL[2] * dT / 2^7` (42_pressure.md R143). -/
def sensitivity (c0 c2 : Word16) (dt : Int) : Rat := rawRat c0 * kSensMul + rawRat c2 * (dt : Rat) / kTcsDiv

/-- The second-order corrections of one regime (42_pressure.md R144 to R147). -/
structure SecondOrder where
  regime : Regime
  t2 : Rat
  off2 : Rat
  sens2 : Rat
  deriving DecidableEq, Repr

/-- Regime HIGH (42_pressure.md R145). -/
def secondHigh (dt : Int) : SecondOrder :=
  { regime := .high, t2 := kT2hMul * (dt : Rat) ^ 2 / kT2hDiv, off2 := 0, sens2 := 0 }

/-- Regime LOW, from the uncorrected `TEMP` (42_pressure.md R146). -/
def secondLow (dt : Int) (temp : Rat) : SecondOrder :=
  { regime := .low
    t2 := kT2lMul * (dt : Rat) ^ 2 / kT2lDiv
    off2 := kO2lMul * (temp - 2000) ^ 2 / kO2lDiv
    sens2 := kS2lMul * (temp - 2000) ^ 2 / kS2lDiv }

/-- Regime VERYLOW: the terms of LOW and two more, with no divisor (42_pressure.md R147). -/
def secondVeryLow (dt : Int) (temp : Rat) : SecondOrder :=
  { secondLow dt temp with
    regime := .veryLow
    off2 := (secondLow dt temp).off2 + kO2vMul * (temp + 1500) ^ 2
    sens2 := (secondLow dt temp).sens2 + kS2vMul * (temp + 1500) ^ 2 }

/-- The regime is chosen from the first-order `TEMP` with strict comparisons (42_pressure.md R144). -/
def secondOrder (dt : Int) (temp : Rat) : SecondOrder :=
  if temp < kThVlow then secondVeryLow dt temp
  else if temp < kThLow then secondLow dt temp
  else secondHigh dt

/-- `P <- (D1 * SENSC / 2^21 - OFFC) / 2^15 / 100` (42_pressure.md R149). -/
def pressure (d1 : Word24) (sensc offc : Rat) : Rat := (rawRat d1 * sensc / kPDiv1 - offc) / kPDiv2 / kPDiv3

/-- What COMPENSATE writes (42_pressure.md R150). -/
structure Compensated where
  p : Rat
  off : Rat
  sens : Rat
  t2 : Rat
  off2 : Rat
  sens2 : Rat
  tempc : Rat
  regime : Regime
  deriving DecidableEq, Repr

/-- COMPENSATE (42_pressure.md R143 to R150): the corrections are subtracted after all three are computed (R148). -/
def compensate (c0 c1 c2 c3 : Word16) (d1 : Word24) (dt : Int) (temp : Rat) : Compensated :=
  let off := offset c1 c3 dt
  let sens := sensitivity c0 c2 dt
  let so := secondOrder dt temp
  { p := pressure d1 (sens - so.sens2) (off - so.off2)
    off := off, sens := sens, t2 := so.t2, off2 := so.off2, sens2 := so.sens2
    tempc := temp - so.t2, regime := so.regime }

/-- `RH0 <- -6 + 125 * D3 / 2^16` (43_humidity.md R172). All 16 bits of `D3` count (R174). -/
def linearRh (d3 : Word16) : Rat := kRhOfs + kRhMul * rawRat d3 / kRhDiv

/-- HUMIDITY with its temperature correction; no clamp (43_humidity.md R173, R174). -/
def humidity (d3 : Word16) (t : Option Rat) : Rat :=
  match t with
  | some t => linearRh d3 + kRhTc * (t - kRhTref)
  | none => linearRh d3

end Sys2Proof.Machine
end

