-- ==== Sys2Proof/Machine/Humidity.lean ====
section
/-! DEFINITION. The humidity conversion (43_humidity.md): GET_RH, the measure command of ACQ_RH, and the read of its
sample with HUMIDITY. -/

namespace Sys2Proof.Machine

/-- `get_rh`, request words 0x03 and 0x0B (43_humidity.md R170, R175). Its bus events follow, one a step. -/
def execGetRh (arg : Option Rat) (s : State) : Result := .next (admitMeasurement .getRh arg s)

/-- First event of ACQ_RH: the measure command 0xE5; an error sets `ERR_RH` and skips the read (43_humidity.md R171). -/
def execBusMeasureRh (s : State) : Result := emitCommand .rh 0xE5#8 .acqRh s

/-- `D3 <- be16(r) ; V_D3 <- 1` (43_humidity.md R171). -/
def State.writeD3 (v : Word16) (s : State) : State :=
  { s with raw := { s.raw with d3 := some v }, status := { s.status with vD3 := true } }

/-- `RES_RH <- RH ; V_RH <- 1` (43_humidity.md R173). -/
def State.writeRh (v : Rat) (s : State) : State :=
  { s with res := { s.res with rh := some v }, status := { s.status with vRh := true } }

/-- Second event of ACQ_RH: the 2-byte read of `D3`, then HUMIDITY (43_humidity.md R171, R175). -/
def State.readD3 (s : State) : State :=
  let got := s.exchange (.busRead (s.cfg.addr .rh) 2)
  match answer16 s.answer with
  | none => got.failPhase .acqRh
  | some v => ((got.writeD3 v).writeRh (humidity v (correctingTemperature s))).advance

end Sys2Proof.Machine
end

