-- ==== Sys2Proof/Machine/Init.lean ====
section
/-! DEFINITION. INIT (40_init.md): the request, its reset and PROM commands, its opens and its PROM reads. -/

namespace Sys2Proof.Machine

/-- INIT start: the previous calibration and handles are discarded, with no bus event (40_init.md R101). -/
def State.startInit (s : State) : State :=
  { s with
    status := { s.status with state := .uninit, calCount := 0 }
    cal := CalFile.empty, hTp := false, hRh := false }

/-- `init`, request word 0x00: accepted in every `STATE` while `BUSY` = 0 (40_init.md R100, R101; 60_exceptions.md R209).
Its bus events follow, one a step (R102). -/
def execInit (s : State) : Result :=
  if s.status.busy then .next (s.refuse .overlap) else .next ((s.accept .init none).startInit)

/-- A handle bit is set by a BusOpen that answers `ok` (10_state.md R34, 40_init.md R102). -/
def State.setHandle (d : Device) (s : State) : State :=
  match d with
  | .tp => { s with hTp := true }
  | .rh => { s with hRh := true }

/-- Events 0 and 14: BusOpen (40_init.md R102). -/
def State.openDevice (d : Device) (s : State) : State :=
  let opened := s.exchange (.busOpen (s.cfg.addr d))
  if answerOk 0 s.answer then (opened.setHandle d).advance else opened.failPhase .init

/-- `CAL[k] <- v ; CAL_COUNT <- k + 1` (40_init.md R102). -/
def State.writeCal (k : Nat) (v : Word16) (s : State) : State :=
  { s with cal := s.cal.set k v, status := { s.status with calCount := k + 1 } }

/-- Events 3 + 2k: the 2-byte read of a PROM word, stored as read (40_init.md R102, R106). -/
def State.readCal (k : Nat) (s : State) : State :=
  let got := s.exchange (.busRead (s.cfg.addr .tp) 2)
  match answer16 s.answer with
  | some v => (got.writeCal k v).advance
  | none => got.failPhase .init

/-- Event 1: the TP reset command 0x1E; no wait and no check follow (40_init.md R102, R103). -/
def execBusResetTp (s : State) : Result := emitCommand .tp 0x1E#8 .init s

/-- Event 2: the PROM read command of `CAL[0]` (40_init.md R102, 30_encoding.md R71). -/
def execBusPromReadC0 (s : State) : Result := emitCommand .tp 0xA2#8 .init s

/-- Event 4: the PROM read command of `CAL[1]` (40_init.md R102, 30_encoding.md R71). -/
def execBusPromReadC1 (s : State) : Result := emitCommand .tp 0xA4#8 .init s

/-- Event 6: the PROM read command of `CAL[2]` (40_init.md R102, 30_encoding.md R71). -/
def execBusPromReadC2 (s : State) : Result := emitCommand .tp 0xA6#8 .init s

/-- Event 8: the PROM read command of `CAL[3]` (40_init.md R102, 30_encoding.md R71). -/
def execBusPromReadC3 (s : State) : Result := emitCommand .tp 0xA8#8 .init s

/-- Event 10: the PROM read command of `CAL[4]` (40_init.md R102, 30_encoding.md R71). -/
def execBusPromReadC4 (s : State) : Result := emitCommand .tp 0xAA#8 .init s

/-- Event 12: the PROM read command of `CAL[5]` (40_init.md R102, 30_encoding.md R71). -/
def execBusPromReadC5 (s : State) : Result := emitCommand .tp 0xAC#8 .init s

/-- `STATE <- READY` (40_init.md R102). -/
def State.setReady (s : State) : State := { s with status := { s.status with state := .ready } }

/-- The RH reset command answered: on `ok` INIT's last event is done, `STATE` is READY and INIT completes; on `err` INIT
fails (40_init.md R102, R104). -/
def State.issueResetRh (s : State) : State :=
  let sent := s.exchange (.busWrite (s.cfg.addr .rh) 0xFE#8)
  if answerOk 0 s.answer then (sent.setReady).advance else sent.failPhase .init

/-- Event 15: the RH reset command 0xFE (40_init.md R102). -/
def execBusResetRh (s : State) : Result :=
  if s.nextEvent = some (.command 0xFE#8) then .next s.issueResetRh else .fault .outOfSequence

end Sys2Proof.Machine
end

