-- ==== Sys2Proof/Machine/Pressure.lean ====
section
/-! DEFINITION. The pressure conversion (42_pressure.md): GET_TP, the convert command of ACQ_P, and the read of its sample
with COMPENSATE. -/

namespace Sys2Proof.Machine

/-- `get_tp`, request word 0x02 (42_pressure.md R140, R141). Its bus events follow, one a step. -/
def execGetTp (s : State) : Result := .next (admitMeasurement .getTp none s)

/-- First event of ACQ_P: the convert-pressure command 0x4A; an error sets `ERR_P` and skips the wait and the read
(42_pressure.md R142). -/
def execBusConvertP (s : State) : Result := emitCommand .tp 0x4A#8 .acqP s

/-- `D1 <- be24(r) ; V_D1 <- 1` (42_pressure.md R142). -/
def State.writeD1 (v : Word24) (s : State) : State :=
  { s with raw := { s.raw with d1 := some v }, status := { s.status with vD1 := true } }

/-- The writes of COMPENSATE; `RES_T` is not among them (42_pressure.md R150). -/
def State.writeCompensated (c : Compensated) (s : State) : State :=
  { s with
    res := { s.res with
      p := some c.p, off := some c.off, sens := some c.sens, t2 := some c.t2, off2 := some c.off2,
      sens2 := some c.sens2, tempc := some c.tempc }
    status := { s.status with vP := true, regime := c.regime } }

/-- COMPENSATE of a sample with the calibration file and the `dT` and `TEMP` of the same operation, which stand in
`RES_DT` and `RES_TEMP` (42_pressure.md R141, R143; log 11); `none` where one of them holds no value (log 5). -/
def calCompensate (c : CalFile) (r : ResultRegs) (d1 : Word24) : Option Compensated :=
  match c.c0, c.c1, c.c2, c.c3, r.dt, r.temp with
  | some c0, some c1, some c2, some c3, some dt, some temp => some (compensate c0 c1 c2 c3 d1 dt temp)
  | _, _, _, _, _, _ => none

/-- Third event of ACQ_P: the 3-byte block read of `D1`, then COMPENSATE (42_pressure.md R142, R141). -/
def readD1 (s : State) : Result :=
  let got := s.exchange (.busBlockRead (s.cfg.addr .tp) 3)
  match answer24 s.answer with
  | none => .next (got.failPhase .acqP)
  | some v =>
    match calCompensate s.cal s.res v with
    | none => .fault .absentOperand
    | some c => .next (((got.writeD1 v).writeCompensated c).advance)

end Sys2Proof.Machine
end

