-- ==== Sys2Proof/Machine/Temperature.lean ====
section
/-! DEFINITION. The temperature conversion (41_temperature.md): GET_T, the convert command of ACQ_T, and the read of its
sample with FIRST_ORDER. -/

namespace Sys2Proof.Machine

/-- `get_t`, request word 0x01 (41_temperature.md R120, R124). Its bus events follow, one a step. -/
def execGetT (s : State) : Result := .next (admitMeasurement .getT none s)

/-- First event of ACQ_T: the convert-temperature command 0x5A; an error sets `ERR_T` and skips the wait and the read
(41_temperature.md R121). -/
def execBusConvertT (s : State) : Result := emitCommand .tp 0x5A#8 .acqT s

/-- `D2 <- be24(r) ; V_D2 <- 1` (41_temperature.md R121). -/
def State.writeD2 (v : Word24) (s : State) : State :=
  { s with raw := { s.raw with d2 := some v }, status := { s.status with vD2 := true } }

/-- `RES_DT`, `RES_TEMP`, `RES_T` and their valid bits (41_temperature.md R124, 42_pressure.md R141). -/
def State.writeFirstOrder (f : FirstOrder) (s : State) : State :=
  { s with
    res := { s.res with dt := some f.dt, temp := some f.temp, t := some f.t }
    status := { s.status with vDt := true, vTemp := true, vT := true } }

/-- GET_TH keeps `T` alone: `TEMP` and `dT` are discarded (44_composite.md R188). -/
def State.writeTOnly (f : FirstOrder) (s : State) : State :=
  { s with res := { s.res with t := some f.t }, status := { s.status with vT := true } }

/-- What the running operation keeps of FIRST_ORDER. -/
def State.keepFirstOrder (f : FirstOrder) (s : State) : State :=
  match s.op with
  | some .getTh => s.writeTOnly f
  | _ => s.writeFirstOrder f

/-- FIRST_ORDER of a sample with the calibration file; `none` where a coefficient holds no value (41_temperature.md
R122; log 5). -/
def calFirstOrder (c : CalFile) (d2 : Word24) : Option FirstOrder :=
  match c.c4, c.c5 with
  | some c4, some c5 => some (firstOrder c4 c5 d2)
  | _, _ => none

/-- Third event of ACQ_T: the 3-byte block read of `D2`, then FIRST_ORDER (41_temperature.md R121, R123, R124). -/
def readD2 (s : State) : Result :=
  let got := s.exchange (.busBlockRead (s.cfg.addr .tp) 3)
  match answer24 s.answer with
  | none => .next (got.failPhase .acqT)
  | some v =>
    match calFirstOrder s.cal v with
    | none => .fault .absentOperand
    | some f => .next (((got.writeD2 v).keepFirstOrder f).advance)

end Sys2Proof.Machine
end

