-- ==== Sys2Proof/Machine/Dispatch.lean ====
section
/-! DEFINITION. One arm per constructor of Instr. -/

namespace Sys2Proof.Machine

def exec (i : Instr) (s : State) : Host.Outcome State Fault Refusal :=
  match i with
  | .init => Sys2Proof.Machine.execInit s
  | .getT => Sys2Proof.Machine.execGetT s
  | .getTp => Sys2Proof.Machine.execGetTp s
  | .getRh arg => Sys2Proof.Machine.execGetRh arg s
  | .getTph => Sys2Proof.Machine.execGetTph s
  | .getTh => Sys2Proof.Machine.execGetTh s
  | .busResetTp => Sys2Proof.Machine.execBusResetTp s
  | .busPromReadC0 => Sys2Proof.Machine.execBusPromReadC0 s
  | .busPromReadC1 => Sys2Proof.Machine.execBusPromReadC1 s
  | .busPromReadC2 => Sys2Proof.Machine.execBusPromReadC2 s
  | .busPromReadC3 => Sys2Proof.Machine.execBusPromReadC3 s
  | .busPromReadC4 => Sys2Proof.Machine.execBusPromReadC4 s
  | .busPromReadC5 => Sys2Proof.Machine.execBusPromReadC5 s
  | .busConvertT => Sys2Proof.Machine.execBusConvertT s
  | .busConvertP => Sys2Proof.Machine.execBusConvertP s
  | .busResetRh => Sys2Proof.Machine.execBusResetRh s
  | .busMeasureRh => Sys2Proof.Machine.execBusMeasureRh s

end Sys2Proof.Machine
end

