-- ==== Sys2Proof/Machine/Sequencer.lean ====
section
/-! DEFINITION. The turns of the three agents (10_state.md R20): the controller's next bus event of the running operation
(R33), the host's request and read (60_exceptions.md R209, R221), block reset. -/

namespace Sys2Proof.Machine

/-- A BusWrite of the running operation's list: its byte is decoded as a command and run (30_encoding.md R71). -/
def runCommand (c : Byte) (s : State) : Result :=
  match decodeCommand c with
  | .instr i => exec i s
  | .illegal _ => .refused (.unlistedCommand c)

/-- One event of the running operation's list. -/
def runEvent (e : BusStep) (s : State) : Result :=
  match e with
  | .openDevice d => .next (s.openDevice d)
  | .command c => runCommand c s
  | .waitConversion => .next s.waitConversion
  | .readCal k => .next (s.readCal k)
  | .readD2 => readD2 s
  | .readD1 => readD1 s
  | .readD3 => .next s.readD3

/-- The running operation's next event; past the last one it completes (10_state.md R33). -/
def runOperation (s : State) : Result :=
  match s.op with
  | none => .fault .noOperation
  | some o =>
    match (eventList o)[s.seq]? with
    | some e => runEvent e s
    | none => .next s.complete

/-- The controller's turn: while `BUSY` = 1 the next event, else the block waits for a request
(70_reset_and_hazards.md R231). -/
def controllerTurn (s : State) : Result := if s.status.busy then runOperation s else .next s

/-- The host presents a request: OVERLAP, ILLEGAL, then the instruction's own check and effect, in the order of
60_exceptions.md R209. -/
def presentRequest (r : Request) (s : State) : Result :=
  if s.status.busy then .next (s.refuse .overlap)
  else
    match decodeRequest r with
    | .instr i => exec i s
    | .illegal _ => .next (s.refuse .illegal)

/-- The turn named by the schedule is taken off it and made; with no turn left the controller moves (log 1). -/
def takeTurn (s : State) : Result :=
  match s.schedule with
  | [] => controllerTurn s
  | .request r :: rest => presentRequest r { s with schedule := rest }
  | .read index :: rest => .next (State.hostRead index { s with schedule := rest })
  | .controller :: rest => controllerTurn { s with schedule := rest }
  | .await :: rest => if s.status.busy then runOperation s else .next { s with schedule := rest }
  | .blockReset :: rest => .next (State.blockReset { s with schedule := rest })

/-- The sequencer standing at an event of an operation, with the controller's turn next. -/
def State.atEvent (o : Op) (n : Nat) (s : State) : State :=
  { s with
    status := { s.status with busy := true }, op := some o, seq := n, schedule := .controller :: s.schedule }

/-- The sequencer standing at the first event of the opcode table's order that issues a command byte: INIT's events 1, 2,
4, .. 12 and 15 (40_init.md R102), ACQ_T in GET_T, ACQ_P in GET_TP, ACQ_RH in GET_RH. -/
def State.atCommand (c : Byte) (s : State) : State :=
  if c = 0x1E#8 then s.atEvent .init 1
  else if c = 0xA2#8 then s.atEvent .init 2
  else if c = 0xA4#8 then s.atEvent .init 4
  else if c = 0xA6#8 then s.atEvent .init 6
  else if c = 0xA8#8 then s.atEvent .init 8
  else if c = 0xAA#8 then s.atEvent .init 10
  else if c = 0xAC#8 then s.atEvent .init 12
  else if c = 0xFE#8 then s.atEvent .init 15
  else if c = 0x5A#8 then s.atEvent .getT 0
  else if c = 0x4A#8 then s.atEvent .getTp 3
  else s.atEvent .getRh 0

/-- What makes the next step run what is on the wire: a request is presented by the host in the next turn; a command byte
is the next event of a running operation (log 1). -/
def State.place (w : Wire) (s : State) : State :=
  match w with
  | .request r => { s with schedule := .request r :: s.schedule }
  | .command c => s.atCommand c

end Sys2Proof.Machine
end

