-- ==== Sys2Proof/Machine/Step.lean ====
section
/-! DEFINITION. One step of the machine, and the state in which the next step runs a given word. -/

namespace Sys2Proof.Machine

/-- One step: the next turn (10_state.md R20). -/
def step (s : State) : Host.Outcome State Fault Refusal := Sys2Proof.Machine.takeTurn s

/-- The state whose next step runs the instruction with the bits `w` of spec/opcode_table.json (log 1). Every row is one
byte, so the number of bits changes nothing. -/
def State.withFetchWord (s : State) (_nbits w : Nat) : State := s.place (tableWire w)

end Sys2Proof.Machine
end

