-- ==== Sys2Proof/Machine/Assembler.lean ====
section
/-! DEFINITION. The textual syntax of a program (30_encoding.md R80): one request or host read a line, read into the
turns of the schedule. A request is followed by the wait for its completion, since the operations are blocking calls
(10_state.md R26, 70_reset_and_hazards.md R239; log 17). -/

namespace Sys2Proof.Machine

/-- What one line of a program says. -/
inductive Line where
  | turns (ts : List Turn)
  | malformed
  deriving DecidableEq, Repr

/-- The text before a comment: ';' starts one that runs to the end of the line (30_encoding.md R80). -/
def beforeComment : List Char → List Char
  | [] => []
  | c :: rest => if c = ';' then [] else c :: beforeComment rest

/-- The words of a line, separated by spaces and tabs; the second argument is the word being read, last letter first. -/
def splitWords : List Char → List Char → List (List Char)
  | [], word => if word.isEmpty then [] else [word.reverse]
  | c :: rest, word =>
    if c = ' ' ∨ c = '\t' then
      if word.isEmpty then splitWords rest [] else word.reverse :: splitWords rest []
    else splitWords rest (c :: word)

/-- The value of a digit in a base. -/
def digitValue (base : Nat) (c : Char) : Option Nat :=
  let n := c.toNat
  let v := if 48 ≤ n ∧ n ≤ 57 then n - 48
    else if 97 ≤ n ∧ n ≤ 102 then n - 87
    else if 65 ≤ n ∧ n ≤ 70 then n - 55
    else base
  if v < base then some v else none

/-- The value of a string of digits after what was read already. -/
def digitsFrom (base : Nat) : List Char → Nat → Option Nat
  | [], acc => some acc
  | c :: rest, acc =>
    match digitValue base c with
    | some v => digitsFrom base rest (acc * base + v)
    | none => none

/-- The value of a nonempty string of digits. -/
def digits (base : Nat) (w : List Char) : Option Nat := if w.isEmpty then none else digitsFrom base w 0

/-- The digits before and after the point. -/
def splitPoint : List Char → List Char × Option (List Char)
  | [] => ([], none)
  | c :: rest => if c = '.' then ([], some rest) else (c :: (splitPoint rest).1, (splitPoint rest).2)

/-- An unsigned decimal literal as the exact rational it spells (30_encoding.md R80). -/
def unsignedDecimal (w : List Char) : Option Rat :=
  match splitPoint w with
  | (whole, none) => (digits 10 whole).map (fun n => (n : Rat))
  | (whole, some frac) =>
    match digits 10 whole, digits 10 frac with
    | some n, some m => some ((n : Rat) + (m : Rat) / (10 : Rat) ^ frac.length)
    | _, _ => none

/-- A decimal literal with an optional minus sign (30_encoding.md R80). -/
def decimal : List Char → Option Rat
  | [] => none
  | c :: rest => if c = '-' then (unsignedDecimal rest).map (fun q => -q) else unsignedDecimal (c :: rest)

/-- A host index: hexadecimal after 0x, else decimal (30_encoding.md R80: "for example rd 0x12"). -/
def hostIndex : List Char → Option Nat
  | '0' :: 'x' :: rest => digits 16 rest
  | w => digits 10 w

/-- A request that the host presents and waits for. -/
def blockingRequest (w : Byte) (t : Option Rat) : Line := .turns [.request { word := w, operand := t }, .await]

/-- One line of a program (30_encoding.md R80). DESIGN CHOICE (log 17): a line with no request and no read, blank or only a
comment, stands for no turn; R80 says one request a line and is silent on such lines. -/
def assembleLine (text : List Char) : Line :=
  match splitWords (beforeComment text) [] with
  | [] => .turns []
  | [w] =>
    if w = ['i', 'n', 'i', 't'] then blockingRequest 0x00#8 none
    else if w = ['g', 'e', 't', '_', 't'] then blockingRequest 0x01#8 none
    else if w = ['g', 'e', 't', '_', 't', 'p'] then blockingRequest 0x02#8 none
    else if w = ['g', 'e', 't', '_', 'r', 'h'] then blockingRequest 0x03#8 none
    else if w = ['g', 'e', 't', '_', 't', 'p', 'h'] then blockingRequest 0x04#8 none
    else if w = ['g', 'e', 't', '_', 't', 'h'] then blockingRequest 0x05#8 none
    else .malformed
  | [w, a] =>
    if w = ['g', 'e', 't', '_', 'r', 'h'] then
      match decimal a with
      | some t => blockingRequest 0x0B#8 (some t)
      | none => .malformed
    else if w = ['r', 'd'] then
      match hostIndex a with
      | some i => .turns [.read i]
      | none => .malformed
    else .malformed
  | _ => .malformed

/-- A whole program, line by line; `none` where a line is malformed. -/
def assemble : List (List Char) → Option (List Turn)
  | [] => some []
  | l :: rest =>
    match assembleLine l, assemble rest with
    | .turns ts, some more => some (ts ++ more)
    | _, _ => none

end Sys2Proof.Machine
end

