-- ==== Sys2Proof/Machine/FixedPoint.lean ====
section
/-! DEFINITION. The fixed-point forms of the pipeline: every quantity as an integer numerator over a fixed power of two
(41_temperature.md R126; 42_pressure.md R151, R152; 43_humidity.md R177), and the register widths that suffice (R153).
They are the datapath an implementation holds; Compensation.lean holds the exact values they represent. -/

namespace Sys2Proof.Machine

/-- `X = dT * CAL[5]` (41_temperature.md R126). -/
def fixX (c5 : Word16) (dt : Int) : Int := dt * rawInt c5

/-- `TEMPn = 2000 * 2^23 + X`, at scale 2^-23 (41_temperature.md R126). -/
def fixTemp (c5 : Word16) (dt : Int) : Int := 16777216000 + fixX c5 dt

/-- `Y = X + 29360128000`, whose sign tells VERYLOW (42_pressure.md R151). -/
def fixY (c5 : Word16) (dt : Int) : Int := fixX c5 dt + 29360128000

/-- The regime from the signs of `X` and `Y`, without forming `TEMP` (42_pressure.md R151). -/
def fixRegime (c5 : Word16) (dt : Int) : Regime :=
  if fixY c5 dt < 0 then .veryLow else if fixX c5 dt < 0 then .low else .high

/-- `OFFn = CAL[1]*2^23 + CAL[3]*dT`, at scale 2^-6 (42_pressure.md R152). -/
def fixOff (c1 c3 : Word16) (dt : Int) : Int := rawInt c1 * 2 ^ 23 + rawInt c3 * dt

/-- `SENSn = CAL[0]*2^23 + CAL[2]*dT`, at scale 2^-7 (42_pressure.md R152). -/
def fixSens (c0 c2 : Word16) (dt : Int) : Int := rawInt c0 * 2 ^ 23 + rawInt c2 * dt

/-- `T2n`, at scale 2^-38 (42_pressure.md R152). -/
def fixT2 (c5 : Word16) (dt : Int) : Int := if fixX c5 dt < 0 then 96 * dt ^ 2 else 5 * dt ^ 2

/-- `OFF2n`, at scale 2^-50 (42_pressure.md R152). -/
def fixOff2 (c5 : Word16) (dt : Int) : Int :=
  if fixY c5 dt < 0 then 61 * fixX c5 dt ^ 2 + 272 * fixY c5 dt ^ 2
  else if fixX c5 dt < 0 then 61 * fixX c5 dt ^ 2
  else 0

/-- `SENS2n`, at scale 2^-50 (42_pressure.md R152). -/
def fixSens2 (c5 : Word16) (dt : Int) : Int :=
  if fixY c5 dt < 0 then 29 * fixX c5 dt ^ 2 + 144 * fixY c5 dt ^ 2
  else if fixX c5 dt < 0 then 29 * fixX c5 dt ^ 2
  else 0

/-- `TEMPCn = TEMPn*2^15 - T2n`, at scale 2^-38 (42_pressure.md R152). -/
def fixTempc (c5 : Word16) (dt : Int) : Int := fixTemp c5 dt * 2 ^ 15 - fixT2 c5 dt

/-- `OFFCn = OFFn*2^44 - OFF2n`, at scale 2^-50 (42_pressure.md R152). -/
def fixOffc (c1 c3 c5 : Word16) (dt : Int) : Int := fixOff c1 c3 dt * 2 ^ 44 - fixOff2 c5 dt

/-- `SENSCn = SENSn*2^43 - SENS2n`, at scale 2^-50 (42_pressure.md R152). -/
def fixSensc (c0 c2 c5 : Word16) (dt : Int) : Int := fixSens c0 c2 dt * 2 ^ 43 - fixSens2 c5 dt

/-- `Pn = D1*SENSCn - 2^21*OFFCn`, over 100 * 2^86 (42_pressure.md R152). -/
def fixP (c0 c1 c2 c3 c5 : Word16) (d1 : Word24) (dt : Int) : Int :=
  rawInt d1 * fixSensc c0 c2 c5 dt - 2 ^ 21 * fixOffc c1 c3 c5 dt

/-- `RH0n = 125*D3 - 393216`, at scale 2^-16 (43_humidity.md R177). -/
def fixRh (d3 : Word16) : Int := 125 * rawInt d3 - 393216

/-- An integer fits a two's-complement register of `w + 1` bits. -/
def fitsSigned (w : Nat) (n : Int) : Prop := -(2 ^ w : Int) ≤ n ∧ n < 2 ^ w

end Sys2Proof.Machine
end

