-- ==== Sys2Proof/Machine/Reference.lean ====
section
/-! DEFINITION. The operations' pseudocode as the spec writes it, one whole operation at a time with its local variables
(40_init.md R102; 41_temperature.md R121, R124; 42_pressure.md R141, R142; 43_humidity.md R171, R175; 44_composite.md
R186, R188), beside the sequencer that issues one event a step. It is what the sequencer is held to, never what runs. Two
readings of the model's own stand in it: `finishOperation` (log 6), and `answerOk 0` for opens and writes (log 10). -/

namespace Sys2Proof.Machine

/-- `n` steps, stopping at the first fault or refusal. -/
def runSteps : Nat → State → Result
  | 0, s => .next s
  | n + 1, s =>
    match step s with
    | .next t => runSteps n t
    | .fault f => .fault f
    | .refused r => .refused r

/-- `complete` at the end of an operation, `seq` past its last event, also after an error (log 6). -/
def finishOperation (o : Op) (s : State) : State := State.complete { s with seq := (eventList o).length }

/-- A phase records its error (60_exceptions.md R201). -/
def State.noteError (ph : Phase) (s : State) : State := { s with status := s.status.withError ph }

/-- ACQ_T and ACQ_P up to the raw sample: convert, wait, read (41_temperature.md R121, 42_pressure.md R142). -/
def convertAndRead (c : Byte) (ph : Phase) (s : State) : Option Word24 × State :=
  let sent := s.exchange (.busWrite (s.cfg.addr .tp) c)
  if answerOk 0 s.answer then
    let waited := sent.record (.sleep sent.cfg.convWaitMs) (.ok [])
    let got := waited.exchange (.busBlockRead (waited.cfg.addr .tp) 3)
    match answer24 waited.answer with
    | some v => (some v, got)
    | none => (none, got.noteError ph)
  else (none, sent.noteError ph)

/-- ACQ_RH up to the raw sample: measure, read (43_humidity.md R171). -/
def measureAndRead (s : State) : Option Word16 × State :=
  let sent := s.exchange (.busWrite (s.cfg.addr .rh) 0xE5#8)
  if answerOk 0 s.answer then
    let got := sent.exchange (.busRead (sent.cfg.addr .rh) 2)
    match answer16 sent.answer with
    | some v => (some v, got)
    | none => (none, got.noteError .acqRh)
  else (none, sent.noteError .acqRh)

/-- ACQ_RH and HUMIDITY with a correcting temperature (43_humidity.md R175). -/
def humidityPart (t : Option Rat) (s : State) : State :=
  match measureAndRead s with
  | (some v, got) => (got.writeD3 v).writeRh (humidity v t)
  | (none, got) => got

/-- COMPENSATE with the operation's own `dT` and `TEMP` (42_pressure.md R141). -/
def pressurePart (f : FirstOrder) (s : State) : Result :=
  match convertAndRead 0x4A#8 .acqP s with
  | (none, got) => .next got
  | (some v, got) =>
    match s.cal.c0, s.cal.c1, s.cal.c2, s.cal.c3 with
    | some c0, some c1, some c2, some c3 =>
      .next ((got.writeD1 v).writeCompensated (compensate c0 c1 c2 c3 v f.dt f.temp))
    | _, _, _, _ => .fault .absentOperand

/-- What follows a part that did not stop. -/
def andThen (r : Result) (k : State → State) : Result :=
  match r with
  | .next s => .next (k s)
  | .fault f => .fault f
  | .refused q => .refused q

/-- GET_T (41_temperature.md R124). -/
def referenceGetT (s : State) : Result :=
  match convertAndRead 0x5A#8 .acqT s with
  | (none, got) => .next (finishOperation .getT got)
  | (some v, got) =>
    match calFirstOrder s.cal v with
    | some f => .next (finishOperation .getT ((got.writeD2 v).writeFirstOrder f))
    | none => .fault .absentOperand

/-- GET_TP (42_pressure.md R141). -/
def referenceGetTp (s : State) : Result :=
  match convertAndRead 0x5A#8 .acqT s with
  | (none, got) => .next (finishOperation .getTp got)
  | (some v, got) =>
    match calFirstOrder s.cal v with
    | some f => andThen (pressurePart f ((got.writeD2 v).writeFirstOrder f)) (finishOperation .getTp)
    | none => .fault .absentOperand

/-- GET_RH (43_humidity.md R175). -/
def referenceGetRh (s : State) : Result := .next (finishOperation .getRh (humidityPart s.argT s))

/-- GET_TPH: humidity is always issued, with `t <- (V_T == 1) ? RES_T : absent` (44_composite.md R186). -/
def referenceGetTph (s : State) : Result :=
  match convertAndRead 0x5A#8 .acqT s with
  | (none, got) => .next (finishOperation .getTph (humidityPart none got))
  | (some v, got) =>
    match calFirstOrder s.cal v with
    | some f =>
      andThen (pressurePart f ((got.writeD2 v).writeFirstOrder f))
        (fun mid => finishOperation .getTph (humidityPart (some f.t) mid))
    | none => .fault .absentOperand

/-- GET_TH: `T` alone is kept, humidity is always issued (44_composite.md R188). -/
def referenceGetTh (s : State) : Result :=
  match convertAndRead 0x5A#8 .acqT s with
  | (none, got) => .next (finishOperation .getTh (humidityPart none got))
  | (some v, got) =>
    match calFirstOrder s.cal v with
    | some f => .next (finishOperation .getTh (humidityPart (some f.t) ((got.writeD2 v).writeTOnly f)))
    | none => .fault .absentOperand

/-- `init_fail` (40_init.md R102). -/
def initFail (s : State) : State := finishOperation .init (s.noteError .init)

/-- Events 14 and 15 of INIT (40_init.md R102). -/
def initRh (s : State) : State :=
  let opened := s.exchange (.busOpen (s.cfg.addr .rh))
  if answerOk 0 s.answer then
    let opened := opened.setHandle .rh
    let sent := opened.exchange (.busWrite (opened.cfg.addr .rh) 0xFE#8)
    if answerOk 0 opened.answer then finishOperation .init sent.setReady else initFail sent
  else initFail opened

/-- The PROM loop of INIT over the words still to read (40_init.md R102), with the command bytes of R72. -/
def initProm : List Nat → State → State
  | [], s => initRh s
  | k :: rest, s =>
    let sent := s.exchange (.busWrite (s.cfg.addr .tp) (promCommand k))
    if answerOk 0 s.answer then
      let got := sent.exchange (.busRead (sent.cfg.addr .tp) 2)
      match answer16 sent.answer with
      | some v => initProm rest (got.writeCal k v)
      | none => initFail got
    else initFail sent

/-- INIT after its start (40_init.md R102). -/
def referenceInit (s : State) : State :=
  let opened := s.exchange (.busOpen (s.cfg.addr .tp))
  if answerOk 0 s.answer then
    let opened := opened.setHandle .tp
    let sent := opened.exchange (.busWrite (opened.cfg.addr .tp) 0x1E#8)
    if answerOk 0 opened.answer then initProm [0, 1, 2, 3, 4, 5] sent else initFail sent
  else initFail opened

/-- One whole operation from its acceptance to its completion. -/
def referenceOperation (o : Op) (s : State) : Result :=
  match o with
  | .init => .next (referenceInit s)
  | .getT => referenceGetT s
  | .getTp => referenceGetTp s
  | .getRh => referenceGetRh s
  | .getTph => referenceGetTph s
  | .getTh => referenceGetTh s

end Sys2Proof.Machine
end

