-- ==== Sys2Proof/Safety.lean ====
section
/-! DEFINITION. What claims are stated in: the invariant of every state a run reaches, legal bus traffic, what a fault-free
run and a conforming implementation are. -/

namespace Sys2Proof.Safety

open Sys2Proof.Machine

/-- Every valid bit says whether its register holds a value (10_state.md R27, R28, R29); the raw and the result of one
acquisition come together (41_temperature.md R121, R123; 42_pressure.md R142, R150; 43_humidity.md R171, R173). -/
structure ValidBits (s : State) : Prop where
  dt : s.res.dt.isSome = s.status.vDt
  temp : s.res.temp.isSome = s.status.vTemp
  t : s.res.t.isSome = s.status.vT
  p : s.res.p.isSome = s.status.vP
  rh : s.res.rh.isSome = s.status.vRh
  off : s.res.off.isSome = s.status.vP
  sens : s.res.sens.isSome = s.status.vP
  t2 : s.res.t2.isSome = s.status.vP
  off2 : s.res.off2.isSome = s.status.vP
  sens2 : s.res.sens2.isSome = s.status.vP
  tempc : s.res.tempc.isSome = s.status.vP
  d2 : s.raw.d2.isSome = s.status.vD2
  d1 : s.raw.d1.isSome = s.status.vD1
  d3 : s.raw.d3.isSome = s.status.vD3

/-- What the flags of STATUS say of one another (10_state.md R24, R25, R30, R31; 60_exceptions.md R201; 44_composite.md
R189). -/
structure Flags (st : Status) : Prop where
  calCount : st.calCount ≤ 6
  fault : st.fault = true ↔ st.faultCode ≠ .none
  regime : st.regime ≠ .none ↔ st.vP = true
  dtTemp : st.vDt = st.vTemp
  tempT : st.vTemp = true → st.vT = true
  pTemp : st.vP = true → st.vTemp = true
  sampleT : st.vD2 = st.vT
  sampleP : st.vD1 = st.vP
  sampleRh : st.vD3 = st.vRh
  errT : st.errT = true → st.vT = false
  errP : st.errP = true → st.vP = false ∧ st.vTemp = true
  errRh : st.errRh = true → st.vRh = false
  errInit : st.errInit = true ↔ st.state = .failed

/-- Nothing was obtained and nothing failed yet in the phases from `ACQ_T` on. -/
def freshT (st : Status) : Prop := st.vT = false ∧ st.errT = false

/-- Nothing was obtained and nothing failed yet in `ACQ_P`. -/
def freshP (st : Status) : Prop := st.vP = false ∧ st.errP = false

/-- Nothing was obtained and nothing failed yet in `ACQ_RH`. -/
def freshRh (st : Status) : Prop := st.vRh = false ∧ st.errRh = false

/-- How far a running operation is at its event `n`: INIT has written `(n - 2) / 2` calibration words and set the handles
of the opens behind it (40_init.md R102); a measurement runs in READY with the temperature obtained before `ACQ_P`
(42_pressure.md R141). -/
def progress (o : Op) (n : Nat) (s : State) : Prop :=
  match o with
  | .init =>
    s.status.state = .uninit ∧ s.status.calCount = (n - 2) / 2 ∧ s.hTp = decide (1 ≤ n)
      ∧ s.hRh = decide (15 ≤ n) ∧ freshT s.status ∧ freshP s.status ∧ freshRh s.status
  | .getT => s.status.state = .ready ∧ freshT s.status ∧ freshP s.status ∧ freshRh s.status
  | .getTp =>
    s.status.state = .ready ∧ freshP s.status ∧ freshRh s.status
      ∧ (n < 3 → freshT s.status) ∧ (3 ≤ n → s.status.vTemp = true)
  | .getRh => s.status.state = .ready ∧ freshT s.status ∧ freshP s.status ∧ freshRh s.status
  | .getTph =>
    s.status.state = .ready ∧ freshRh s.status ∧ (n < 6 → freshP s.status)
      ∧ (n < 3 → freshT s.status) ∧ (3 ≤ n ∧ n < 6 → s.status.vTemp = true)
  | .getTh =>
    s.status.state = .ready ∧ freshP s.status ∧ freshRh s.status ∧ s.status.vTemp = false
      ∧ (n < 3 → freshT s.status)

/-- Where the sequencer stands while `BUSY` = 1: at an event of the running operation's list (10_state.md R33, R35). -/
def running (s : State) : Prop :=
  match s.op with
  | some o => s.seq < (eventList o).length ∧ progress o s.seq s
  | none => False

/-- The invariant of every state a run reaches from reset. -/
structure Inv (s : State) : Prop where
  flags : Flags s.status
  valid : ValidBits s
  /-- Exactly the first `CAL_COUNT` calibration registers hold a value (10_state.md R22, R24). -/
  cal : ∀ k, k < 6 → (s.cal.get k).isSome = decide (k < s.status.calCount)
  /-- READY means a full calibration and both handles open (10_state.md R25, R34). -/
  ready : s.status.state = .ready → s.status.calCount = 6 ∧ s.hTp = true ∧ s.hRh = true
  /-- UNINIT while idle means that no INIT has completed since reset: nothing is written (10_state.md R25). -/
  uninit : s.status.state = .uninit → s.status.busy = false →
    s.status.calCount = 0 ∧ s.hTp = false ∧ s.hRh = false
  /-- `seq` is an integer 0 .. 16 (10_state.md R33). -/
  seq : s.seq ≤ 16
  busy : s.status.busy = true → running s

/-- A bus event this block may issue under its configuration (20_memory.md R50, R56; 30_encoding.md R71, R73): opens of
the two addresses, command bytes of the table to the sub-device they are bound to, reads of 2 bytes, block reads of 3
bytes from the TP sub-device, and waits of CONV_WAIT. -/
def legalEvent (c : Config) : BusEvent → Prop
  | .busOpen a => a = c.addr .tp ∨ a = c.addr .rh
  | .busWrite a b => (∃ i, decodeCommand b = .instr i) ∧ a = c.addr (commandDevice b)
  | .busRead a n => n = 2 ∧ (a = c.addr .tp ∨ a = c.addr .rh)
  | .busBlockRead a n => n = 3 ∧ a = c.addr .tp
  | .sleep ms => ms = c.convWaitMs

/-- Every event of the history is legal. -/
def legalHistory (s : State) : Prop := ∀ r ∈ s.history, legalEvent s.cfg r.event

/-- The premise of a claim about a run: `FAULT` = 0 at its end (60_exceptions.md R207). -/
def faultFree (s : State) : Prop := s.status.fault = false

/-- The end of a run of a host program: no turn is left and no operation runs (70_reset_and_hazards.md R240). -/
def ended (s : State) : Prop := s.schedule = [] ∧ s.status.busy = false

/-- A floating-point implementation's output `v` conforms to the exact value `x` when `|v - x| ≤ TOL * max(1, |x|)`
(92_eei_decisions.md D30). -/
def conforms (tol v x : Rat) : Prop := |v - x| ≤ tol * max 1 |x|

end Sys2Proof.Safety
end

