-- ==== Sys2Proof/Certificates/Slice0/Obligations.lean ====
section
/-! DEFINITION. The statements for the provers, by the spec's numbered rules. Statements about a step or a run speak of the
model's turns (log 1) and of its script of bus answers (log 2); none rests on a value of the opaque draw. -/

open Sys2Proof Sys2Proof.Machine Sys2Proof.Safety

/-! ### Shorthand of the statements -/

/-- STATUS with every valid bit, `REGIME` and every error flag 0 and `BUSY` = `b` (10_state.md R29). -/
def Sys2Proof.Claims.clear (st : Status) (b : Bool) : Status :=
  { state := st.state, busy := b, fault := st.fault, faultCode := st.faultCode, calCount := st.calCount,
    errInit := false, errT := false, errP := false, errRh := false,
    vDt := false, vTemp := false, vT := false, vP := false, vRh := false, regime := .none,
    vD2 := false, vD1 := false, vD3 := false }

/-- Every result register with no value (10_state.md R38). -/
def Sys2Proof.Claims.noResults : ResultRegs :=
  { dt := none, temp := none, t := none, p := none, rh := none, off := none, sens := none, t2 := none,
    off2 := none, sens2 := none, tempc := none }

/-- A request accepted (60_exceptions.md R209, 10_state.md R29). -/
def Sys2Proof.Claims.accepted (o : Op) (arg : Option Rat) (s : State) : State :=
  { s with
    status := Claims.clear s.status true
    raw := { d2 := none, d1 := none, d3 := none }
    res := Claims.noResults
    seq := 0, op := some o, argT := arg, replies := s.replies ++ [.accepted o] }

/-- A request refused with the fault `c`: the first code is kept (60_exceptions.md R207). -/
def Sys2Proof.Claims.refused (c : FaultCode) (s : State) : State :=
  { s with
    status := { s.status with fault := true, faultCode := if s.status.fault then s.status.faultCode else c }
    replies := s.replies ++ [.refused c] }

/-- The five measurement requests, with what acceptance latches in `OP` and `ARG_T` (30_encoding.md R75, R76). -/
def Sys2Proof.Claims.measurement : Instr → Option (Op × Option Rat)
  | .getT => some (.getT, none)
  | .getTp => some (.getTp, none)
  | .getRh arg => some (.getRh, arg)
  | .getTph => some (.getTph, none)
  | .getTh => some (.getTh, none)
  | _ => none

/-- INIT's commands to the TP sub-device and their bytes (30_encoding.md R71). -/
def Sys2Proof.Claims.initCommands : List (Instr × Byte) :=
  [(.busResetTp, 0x1E#8), (.busPromReadC0, 0xA2#8), (.busPromReadC1, 0xA4#8), (.busPromReadC2, 0xA6#8),
   (.busPromReadC3, 0xA8#8), (.busPromReadC4, 0xAA#8), (.busPromReadC5, 0xAC#8)]

/-- The eleven commands with their byte and sub-device (30_encoding.md R71). -/
def Sys2Proof.Claims.commands : List (Instr × Byte × Device) :=
  [(.busResetTp, 0x1E#8, .tp), (.busPromReadC0, 0xA2#8, .tp), (.busPromReadC1, 0xA4#8, .tp),
   (.busPromReadC2, 0xA6#8, .tp), (.busPromReadC3, 0xA8#8, .tp), (.busPromReadC4, 0xAA#8, .tp),
   (.busPromReadC5, 0xAC#8, .tp), (.busConvertT, 0x5A#8, .tp), (.busConvertP, 0x4A#8, .tp),
   (.busResetRh, 0xFE#8, .rh), (.busMeasureRh, 0xE5#8, .rh)]

/-- The record of one BusWrite of a command byte with the coming answer. -/
def Sys2Proof.Claims.wrote (d : Device) (c : Byte) (s : State) : BusRecord :=
  { event := .busWrite (s.cfg.addr d) c, answer := s.answer }

/-- The history of ACQ_T or ACQ_P whose three events answer `ok` (41_temperature.md R121, 42_pressure.md R142). -/
def Sys2Proof.Claims.converted (cfg : Config) (c b0 b1 b2 : Byte) : List BusRecord :=
  [{ event := .busWrite cfg.addrTp c, answer := .ok [] },
   { event := .sleep cfg.convWaitMs, answer := .ok [] },
   { event := .busBlockRead cfg.addrTp 3, answer := .ok [b0, b1, b2] }]

/-- The history of ACQ_RH whose two events answer `ok` (43_humidity.md R171). -/
def Sys2Proof.Claims.measured (cfg : Config) (b0 b1 : Byte) : List BusRecord :=
  [{ event := .busWrite cfg.addrRh 0xE5#8, answer := .ok [] },
   { event := .busRead cfg.addrRh 2, answer := .ok [b0, b1] }]

/-- The history of one PROM word read (40_init.md R102). -/
def Sys2Proof.Claims.promRead (cfg : Config) (c b0 b1 : Byte) : List BusRecord :=
  [{ event := .busWrite cfg.addrTp c, answer := .ok [] },
   { event := .busRead cfg.addrTp 2, answer := .ok [b0, b1] }]

/-- A read of `n` bytes failed: `err`, or `ok` with another byte count (20_memory.md R52). -/
def Sys2Proof.Claims.badRead (n : Nat) (a : BusAnswer) : Prop :=
  a = .err ∨ ∃ bytes, a = .ok bytes ∧ bytes.length ≠ n

/-- The bus event that an entry of an event list stands for (40_init.md R102; 41_temperature.md R121; 42_pressure.md R142;
43_humidity.md R171). -/
def Sys2Proof.Claims.eventOf (cfg : Config) : BusStep → BusEvent
  | .openDevice .tp => .busOpen cfg.addrTp
  | .openDevice .rh => .busOpen cfg.addrRh
  | .command c => .busWrite (if c = 0xFE#8 ∨ c = 0xE5#8 then cfg.addrRh else cfg.addrTp) c
  | .waitConversion => .sleep cfg.convWaitMs
  | .readCal _ => .busRead cfg.addrTp 2
  | .readD2 => .busBlockRead cfg.addrTp 3
  | .readD1 => .busBlockRead cfg.addrTp 3
  | .readD3 => .busRead cfg.addrRh 2

/-- The record of one event of an event list with the coming answer. -/
def Sys2Proof.Claims.made (e : BusStep) (s : State) : BusRecord :=
  { event := Claims.eventOf s.cfg e, answer := s.answer }

/-! ### Reset -/

/-- R38: the reset value of every state element; STATUS reads 0x00000000 (R32). -/
def Obligations.ResetGivesTheListedValues : Prop :=
  State.reset.status = Claims.clear { State.reset.status with
      state := .uninit, fault := false, faultCode := .none, calCount := 0 } false
  ∧ statusWord State.reset.status = 0x00000000#32
  ∧ State.reset.cal = { c0 := none, c1 := none, c2 := none, c3 := none, c4 := none, c5 := none }
  ∧ State.reset.raw = { d2 := none, d1 := none, d3 := none }
  ∧ State.reset.res = Claims.noResults
  ∧ State.reset.seq = 0 ∧ State.reset.hTp = false ∧ State.reset.hRh = false
  ∧ State.reset.op = none ∧ State.reset.argT = none

/-- R230: block reset gives every state element its reset value, `FAULT` and `FAULT_CODE` included, and issues no bus
event. That it is a turn of the schedule is the model's choice (log 15). -/
def Obligations.BlockResetRestoresEveryElement : Prop :=
  ∀ (s : State) (rest : List Turn), s.schedule = .blockReset :: rest →
    step s = .next { s with
      status := State.reset.status, cal := State.reset.cal, raw := State.reset.raw, res := State.reset.res,
      seq := 0, hTp := false, hRh := false, op := none, argT := none, schedule := rest }

/-- R231: an idle block with no request waits. -/
def Obligations.IdleBlockWaits : Prop :=
  ∀ s : State, s.schedule = [] → s.status.busy = false → step s = .next s

/-! ### A step runs the decoded instruction -/

/-- A request that the idle block is presented with, and that decodes to `i`, is run by `exec i`, its turn taken off the
schedule; a request presented while an operation runs is refused in its turn (R206). -/
def Obligations.StepRunsThePresentedRequest : Prop :=
  (∀ (s : State) (r : Request) (rest : List Turn) (i : Instr),
    s.status.busy = false → s.schedule = .request r :: rest → decodeRequest r = .instr i → i.wellFormed = true →
    step s = exec i { s with schedule := rest })
  ∧ (∀ (s : State) (r : Request) (rest : List Turn), s.schedule = .request r :: rest →
      step s = presentRequest r { s with schedule := rest })
  ∧ ∀ (s : State) (r : Request) (rest : List Turn), s.schedule = .request r :: rest → s.status.busy = true →
      step s = .next (Claims.refused .overlap { s with schedule := rest })

/-- A command byte at which the running operation's event list stands is decoded and run by `exec`. -/
def Obligations.StepRunsTheEmittedCommand : Prop :=
  ∀ (s : State) (c : Byte) (i : Instr),
    s.nextEvent = some (.command c) → decodeCommand c = .instr i → i.wellFormed = true →
    (s.schedule = [] → step s = exec i s)
    ∧ (∀ rest, s.schedule = .controller :: rest → step s = exec i { s with schedule := rest })
    ∧ ∀ rest, s.schedule = .await :: rest → step s = exec i s

/-- The next step after `withFetchWord` runs the instruction that the table word decodes to, on the same state with the
turn taken off. -/
def Obligations.FetchedWordIsTheNextStep : Prop :=
  ∀ (s : State) (nbits w : Nat) (i : Instr),
    s.status.busy = false → decodeTableWord nbits w = some i →
    step (s.withFetchWord nbits w) = exec i { s.withFetchWord nbits w with schedule := s.schedule }

/-! ### Encodings -/

/-- Every instruction is read back from its encoding, with its operand at every rational value (R71, R75, R76, R78). -/
def Obligations.DecodeOfEncodeIsTheInstruction : Prop :=
  ∀ i : Instr, i.wellFormed = true → decode (encode i) = .instr i

/-- What decodes is the encoding of what it decodes to, but for an operand beside a word with `ARGV` = 0, which is not
part of the request (R76; log 9). -/
def Obligations.EncodeOfDecodedWire : Prop :=
  (∀ (r : Request) (i : Instr), decodeRequest r = .instr i →
    encode i = .request { word := r.word, operand := if r.word = 0x0B#8 then r.operand else none })
  ∧ ∀ (c : Byte) (i : Instr), decodeCommand c = .instr i → encode i = .command c

/-- R77: of the 256 words exactly seven are legal, and 0x0B only with an operand. -/
def Obligations.ExactlySevenLegalRequestWords : Prop :=
  ∀ (w : Byte) (operand : Option Rat),
    (∃ i, decodeRequest { word := w, operand := operand } = .instr i) ↔
      (w = 0x00#8 ∨ w = 0x01#8 ∨ w = 0x02#8 ∨ w = 0x03#8 ∨ w = 0x04#8 ∨ w = 0x05#8
        ∨ (w = 0x0B#8 ∧ operand.isSome = true))

/-- R71, R73: the command space is exactly eleven bytes, each bound to its sub-device. -/
def Obligations.ExactlyElevenCommandBytes : Prop :=
  (∀ (c : Byte) (i : Instr), decodeCommand c = .instr i ↔ ∃ d, (i, c, d) ∈ Claims.commands)
  ∧ ∀ row ∈ Claims.commands, commandDevice row.2.1 = row.2.2

/-- R72: the PROM read commands in closed form, by their bits, and by the instruction each decodes to. -/
def Obligations.PromCommandsInClosedForm : Prop :=
  ∀ k, k < 6 →
    promCommand k = BitVec.ofNat 8 (0xA2 + 2 * k)
    ∧ (promCommand k).extractLsb' 4 4 = 0b1010#4
    ∧ ((promCommand k).extractLsb' 1 3).toNat = k + 1
    ∧ (promCommand k).getLsbD 0 = false
    ∧ (Claims.initCommands[k + 1]?).map Prod.snd = some (promCommand k)
    ∧ (initList[2 + 2 * k]? = some (.command (promCommand k)) ∧ initList[3 + 2 * k]? = some (.readCal k))

/-- A few words written out bit by bit from R71 and R75 decode to the instructions they stand for. -/
def Obligations.HandWrittenWordsDecode : Prop :=
  decodeRequest { word := 0b00000000#8, operand := none } = .instr .init
  ∧ decodeRequest { word := 0b00000001#8, operand := none } = .instr .getT
  ∧ decodeRequest { word := 0b00000010#8, operand := none } = .instr .getTp
  ∧ decodeRequest { word := 0b00000011#8, operand := none } = .instr (.getRh none)
  ∧ decodeRequest { word := 0b00001011#8, operand := some 30 } = .instr (.getRh (some 30))
  ∧ decodeRequest { word := 0b00000100#8, operand := none } = .instr .getTph
  ∧ decodeRequest { word := 0b00000101#8, operand := none } = .instr .getTh
  ∧ decodeCommand 0b00011110#8 = .instr .busResetTp
  ∧ decodeCommand 0b10101100#8 = .instr .busPromReadC5
  ∧ decodeCommand 0b01011010#8 = .instr .busConvertT
  ∧ decodeCommand 0b11100101#8 = .instr .busMeasureRh

/-- R80: lines of the textual syntax and the requests they stand for. That a request is followed by the wait for its
completion is the model's choice (log 17). -/
def Obligations.AssemblerReadsTheSyntax : Prop :=
  assembleLine ['g', 'e', 't', '_', 'r', 'h', ' ', '-', '1', '2', '.', '5'] =
    .turns [.request { word := 0x0B#8, operand := some (-25 / 2) }, .await]
  ∧ assembleLine ['g', 'e', 't', '_', 't', 'p', 'h', ' ', ';', ' ', 'x'] =
    .turns [.request { word := 0x04#8, operand := none }, .await]
  ∧ assembleLine ['r', 'd', ' ', '0', 'x', '1', '2'] = .turns [.read 0x12]

/-- R9: the first byte received is the most significant. -/
def Obligations.BigEndianDecoding : Prop :=
  (∀ b0 b1 : Byte, (be16 b0 b1).toNat = b0.toNat * 2 ^ 8 + b1.toNat)
  ∧ ∀ b0 b1 b2 : Byte, (be24 b0 b1 b2).toNat = b0.toNat * 2 ^ 16 + b1.toNat * 2 ^ 8 + b2.toNat

/-! ### Requests: acceptance and refusal -/

/-- R209, R29: an accepted measurement request, and everything it leaves as it was. -/
def Obligations.ReadyBlockAcceptsMeasurements : Prop :=
  ∀ (s : State) (i : Instr) (o : Op) (arg : Option Rat), Claims.measurement i = some (o, arg) →
    s.status.busy = false → s.status.state = .ready → exec i s = .next (Claims.accepted o arg s)

/-- R100, R101: INIT is accepted in every `STATE` and discards the calibration and the handles at its start. -/
def Obligations.InitStartsFresh : Prop :=
  ∀ s : State, s.status.busy = false →
    exec .init s = .next { Claims.accepted .init none s with
      status := { Claims.clear s.status true with state := .uninit, calCount := 0 }
      cal := { c0 := none, c1 := none, c2 := none, c3 := none, c4 := none, c5 := none }
      hTp := false, hRh := false }

/-- R204: a measurement request outside READY records NOT_READY, issues no bus event and changes nothing else; INIT is
never refused for this reason. A request while `BUSY` = 1 is refused before this check (R209). -/
def Obligations.NotReadyRefusesMeasurements : Prop :=
  (∀ (s : State) (i : Instr) (o : Op) (arg : Option Rat), Claims.measurement i = some (o, arg) →
    s.status.busy = false → s.status.state ≠ .ready → exec i s = .next (Claims.refused .notReady s))
  ∧ ∀ s : State, s.status.busy = false →
      ∃ t, exec .init s = .next t ∧ t.status.busy = true ∧ t.replies = s.replies ++ [.accepted .init]

/-- R206: any request while an operation runs records OVERLAP; the running operation is not disturbed; a host read of a
listed index is answered. -/
def Obligations.BusyBlockRefusesRequests : Prop :=
  ∀ s : State, s.status.busy = true →
    (∀ i, (i = .init ∨ (Claims.measurement i).isSome = true) → exec i s = .next (Claims.refused .overlap s))
    ∧ (∀ r : Request, presentRequest r s = .next (Claims.refused .overlap s))
    ∧ ∀ k, indexListed k = true →
        ∃ v, State.hostRead k s = { s with replies := s.replies ++ [.value k v] }

/-- R205: a word that is no request is refused with ILLEGAL, whatever `STATE` says (by an idle block: R209), and so is a
host read of a reserved index, which returns absent; no bus event is issued and no other state changes. -/
def Obligations.IllegalWordsAreRefused : Prop :=
  (∀ (s : State) (r : Request) (e : DecodeError), s.status.busy = false → decodeRequest r = .illegal e →
    presentRequest r s = .next (Claims.refused .illegal s))
  ∧ ∀ (s : State) (k : Nat), indexListed k = false →
      State.hostRead k s = { s with
        status := { s.status with fault := true, faultCode := if s.status.fault then s.status.faultCode else .illegal }
        replies := s.replies ++ [.value k .absent] }

/-- R207: only block reset clears `FAULT` and `FAULT_CODE`, and the first code since reset is kept. -/
def Obligations.FaultIsStickyUntilBlockReset : Prop :=
  ∀ s t : State, step s = .next t → s.status.fault = true → s.schedule.head? ≠ some .blockReset →
    t.status.fault = true ∧ t.status.faultCode = s.status.faultCode

/-! ### The operations, from request to completion -/

/-- R102, R105, R107: INIT whose sixteen events all answer `ok` leaves READY, the six words big-endian in command order,
both handles open, and this history. -/
def Obligations.InitLoadsTheCalibration : Prop :=
  ∀ (s : State) (h0 l0 h1 l1 h2 l2 h3 l3 h4 l4 h5 l5 : Byte) (rest : List BusAnswer),
    s.status.busy = false → s.schedule = [] →
    s.script = .ok [] :: .ok [] :: .ok [] :: .ok [h0, l0] :: .ok [] :: .ok [h1, l1] :: .ok [] :: .ok [h2, l2]
      :: .ok [] :: .ok [h3, l3] :: .ok [] :: .ok [h4, l4] :: .ok [] :: .ok [h5, l5] :: .ok [] :: .ok [] :: rest →
    ∃ t, exec .init s = .next t ∧ runSteps 16 t = .next { Claims.accepted .init none s with
      status := { Claims.clear s.status false with state := .ready, calCount := 6 }
      cal := { c0 := some (be16 h0 l0), c1 := some (be16 h1 l1), c2 := some (be16 h2 l2),
               c3 := some (be16 h3 l3), c4 := some (be16 h4 l4), c5 := some (be16 h5 l5) }
      seq := 16, hTp := true, hRh := true, script := rest
      history := s.history ++ [{ event := .busOpen s.cfg.addrTp, answer := .ok [] },
          { event := .busWrite s.cfg.addrTp 0x1E#8, answer := .ok [] }]
        ++ Claims.promRead s.cfg 0xA2#8 h0 l0 ++ Claims.promRead s.cfg 0xA4#8 h1 l1
        ++ Claims.promRead s.cfg 0xA6#8 h2 l2 ++ Claims.promRead s.cfg 0xA8#8 h3 l3
        ++ Claims.promRead s.cfg 0xAA#8 h4 l4 ++ Claims.promRead s.cfg 0xAC#8 h5 l5
        ++ [{ event := .busOpen s.cfg.addrRh, answer := .ok [] },
          { event := .busWrite s.cfg.addrRh 0xFE#8, answer := .ok [] }] }

/-- R104, R208: INIT stops at the first of its sixteen events that answers `err`, or at a PROM read answered `ok` with a byte
count other than 2 (R52): FAILED, `ERR_INIT`, `BUSY` off, the words read so far kept, that event recorded and no further one.
That `seq` then is 16 is the model's reading of R33 (log 6). -/
def Obligations.InitFailsAtItsFirstError : Prop :=
  ∀ (s : State) (e : BusStep), s.status.busy = true → s.op = some .init → initList[s.seq]? = some e → s.schedule = [] →
    s.answer = .err ∨ ((∃ k, e = .readCal k) ∧ Claims.badRead 2 s.answer) →
    step s = .next { s.consume with
      status := { s.status with state := .failed, errInit := true, busy := false }
      seq := 16, history := s.history ++ [Claims.made e s] }

/-- R122, R123, R124: GET_T whose three events answer `ok`, with the first-order formulas on exact rationals. -/
def Obligations.GetTMeasuresTemperature : Prop :=
  ∀ (s : State) (c4 c5 : Word16) (b0 b1 b2 : Byte) (rest : List BusAnswer),
    s.status.busy = false → s.status.state = .ready → s.schedule = [] →
    s.cal.c4 = some c4 → s.cal.c5 = some c5 → s.script = .ok [] :: .ok [b0, b1, b2] :: rest →
    ∀ (dT : Int) (temp : Rat),
      dT = ((be24 b0 b1 b2).toNat : Int) - (c4.toNat : Int) * 2 ^ 8 →
      temp = 2000 + (dT : Rat) * (c5.toNat : Rat) / 2 ^ 23 →
      ∃ t, exec .getT s = .next t ∧ runSteps 3 t = .next { Claims.accepted .getT none s with
        status := { Claims.clear s.status false with vD2 := true, vDt := true, vTemp := true, vT := true }
        raw := { d2 := some (be24 b0 b1 b2), d1 := none, d3 := none }
        res := { Claims.noResults with
          dt := some dT, temp := some temp, t := some (temp / 100) }
        seq := 3, script := rest
        history := s.history ++ Claims.converted s.cfg 0x5A#8 b0 b1 b2 }

/-- The second-order terms as 42_pressure.md R144 to R147 write them. -/
def Sys2Proof.Claims.SecondOrderTerms (dT : Int) (temp t2 off2 sens2 : Rat) (regime : Regime) : Prop :=
  (temp ≥ 2000 → regime = .high ∧ t2 = 5 * (dT : Rat) ^ 2 / 2 ^ 38 ∧ off2 = 0 ∧ sens2 = 0)
  ∧ (-1500 ≤ temp ∧ temp < 2000 → regime = .low ∧ t2 = 3 * (dT : Rat) ^ 2 / 2 ^ 33
      ∧ off2 = 61 * (temp - 2000) ^ 2 / 2 ^ 4 ∧ sens2 = 29 * (temp - 2000) ^ 2 / 2 ^ 4)
  ∧ (temp < -1500 → regime = .veryLow ∧ t2 = 3 * (dT : Rat) ^ 2 / 2 ^ 33
      ∧ off2 = 61 * (temp - 2000) ^ 2 / 2 ^ 4 + 17 * (temp + 1500) ^ 2
      ∧ sens2 = 29 * (temp - 2000) ^ 2 / 2 ^ 4 + 9 * (temp + 1500) ^ 2)

/-- R143 to R150 and R141: GET_TP whose six events answer `ok`, in each of the three regimes. -/
def Obligations.GetTpMeasuresPressure : Prop :=
  ∀ (s : State) (c0 c1 c2 c3 c4 c5 : Word16) (a0 a1 a2 b0 b1 b2 : Byte) (rest : List BusAnswer),
    s.status.busy = false → s.status.state = .ready → s.schedule = [] →
    s.cal = { c0 := some c0, c1 := some c1, c2 := some c2, c3 := some c3, c4 := some c4, c5 := some c5 } →
    s.script = .ok [] :: .ok [a0, a1, a2] :: .ok [] :: .ok [b0, b1, b2] :: rest →
    ∀ (dT : Int) (temp off sens t2 off2 sens2 : Rat) (regime : Regime),
      dT = ((be24 a0 a1 a2).toNat : Int) - (c4.toNat : Int) * 2 ^ 8 →
      temp = 2000 + (dT : Rat) * (c5.toNat : Rat) / 2 ^ 23 →
      off = (c1.toNat : Rat) * 2 ^ 17 + (c3.toNat : Rat) * (dT : Rat) / 2 ^ 6 →
      sens = (c0.toNat : Rat) * 2 ^ 16 + (c2.toNat : Rat) * (dT : Rat) / 2 ^ 7 →
      Claims.SecondOrderTerms dT temp t2 off2 sens2 regime →
      ∃ t, exec .getTp s = .next t ∧ runSteps 6 t = .next { Claims.accepted .getTp none s with
        status := { Claims.clear s.status false with
          vD2 := true, vD1 := true, vDt := true, vTemp := true, vT := true, vP := true, regime := regime }
        raw := { d2 := some (be24 a0 a1 a2), d1 := some (be24 b0 b1 b2), d3 := none }
        res := { dt := some dT, temp := some temp, t := some (temp / 100)
                 p := some ((((be24 b0 b1 b2).toNat : Rat) * (sens - sens2) / 2 ^ 21 - (off - off2)) / 2 ^ 15 / 100)
                 rh := none, off := some off, sens := some sens, t2 := some t2, off2 := some off2
                 sens2 := some sens2, tempc := some (temp - t2) }
        seq := 6, script := rest
        history := s.history ++ Claims.converted s.cfg 0x5A#8 a0 a1 a2 ++ Claims.converted s.cfg 0x4A#8 b0 b1 b2 }

/-- R141, R142, R155, R52: GET_TP whose pressure read answers `err`, or `ok` with a byte count other than 3, keeps the
temperature and leaves the pressure absent. And R121, R142, R171, R203, R52, at any state: a failed read of `D2`, `D1` or
`D3` records that one event and its phase's error flag, writes no raw or result register, and goes on where R33, R186 and
R188 say. That `seq` goes past the last event where no phase is left is the model's reading of R33 (log 6). -/
def Obligations.GetTpKeepsTemperatureOnPressureError : Prop :=
  (∀ (s : State) (c4 c5 : Word16) (a0 a1 a2 : Byte) (a : BusAnswer) (rest : List BusAnswer),
    s.status.busy = false → s.status.state = .ready → s.schedule = [] →
    s.cal.c4 = some c4 → s.cal.c5 = some c5 → Claims.badRead 3 a →
    s.script = .ok [] :: .ok [a0, a1, a2] :: .ok [] :: a :: rest →
    ∃ t u, exec .getTp s = .next t ∧ runSteps 6 t = .next u
      ∧ u.status = { Claims.clear s.status false with
          vD2 := true, vDt := true, vTemp := true, vT := true, errP := true }
      ∧ u.res = { Claims.noResults with
          dt := some (deltaT c4 (be24 a0 a1 a2))
          temp := some (firstTemp c5 (deltaT c4 (be24 a0 a1 a2)))
          t := some (firstTemp c5 (deltaT c4 (be24 a0 a1 a2)) / 100) }
      ∧ u.raw = { d2 := some (be24 a0 a1 a2), d1 := none, d3 := none }
      ∧ u.cal = s.cal ∧ u.script = rest)
  ∧ (∀ s : State, s.nextEvent = some .readD2 → s.schedule = [] → Claims.badRead 3 s.answer →
      ∃ n b, step s = .next { s.consume with
          status := { s.status with errT := true, busy := b }
          seq := n, history := s.history ++ [Claims.made .readD2 s] }
        ∧ (s.op = some .getT → n = 3 ∧ b = false) ∧ (s.op = some .getTp → n = 6 ∧ b = false)
        ∧ (s.op = some .getTph → n = 6 ∧ b = true) ∧ (s.op = some .getTh → n = 3 ∧ b = true))
  ∧ (∀ s : State, s.nextEvent = some .readD1 → s.schedule = [] → Claims.badRead 3 s.answer →
      ∃ b, step s = .next { s.consume with
          status := { s.status with errP := true, busy := b }
          seq := 6, history := s.history ++ [Claims.made .readD1 s] }
        ∧ (s.op = some .getTp → b = false) ∧ (s.op = some .getTph → b = true))
  ∧ ∀ s : State, s.nextEvent = some .readD3 → s.schedule = [] → Claims.badRead 2 s.answer →
      ∃ o, s.op = some o ∧ step s = .next { s.consume with
        status := { s.status with errRh := true, busy := false }
        seq := (eventList o).length, history := s.history ++ [Claims.made .readD3 s] }

/-- R171 to R175: GET_RH, with and without an operand, whose two events answer `ok`. -/
def Obligations.GetRhMeasuresHumidity : Prop :=
  ∀ (s : State) (arg : Option Rat) (b0 b1 : Byte) (rest : List BusAnswer),
    s.status.busy = false → s.status.state = .ready → s.schedule = [] →
    s.script = .ok [] :: .ok [b0, b1] :: rest →
    ∀ rh0 rh : Rat,
      rh0 = -6 + 125 * ((be16 b0 b1).toNat : Rat) / 2 ^ 16 →
      rh = (match arg with
        | some a => rh0 + 18 / 100 * (a - 20)
        | none => rh0) →
      ∃ t, exec (.getRh arg) s = .next t ∧ runSteps 2 t = .next { Claims.accepted .getRh arg s with
        status := { Claims.clear s.status false with vD3 := true, vRh := true }
        raw := { d2 := none, d1 := none, d3 := some (be16 b0 b1) }
        res := { Claims.noResults with rh := some rh }
        seq := 2, script := rest
        history := s.history ++ Claims.measured s.cfg b0 b1 }

/-- R186: GET_TPH whose eight events answer `ok`: all of GET_TP's results, and the humidity corrected with the first-order
`T`. -/
def Obligations.GetTphMeasuresAllThree : Prop :=
  ∀ (s : State) (c0 c1 c2 c3 c4 c5 : Word16) (a0 a1 a2 b0 b1 b2 e0 e1 : Byte) (rest : List BusAnswer),
    s.status.busy = false → s.status.state = .ready → s.schedule = [] →
    s.cal = { c0 := some c0, c1 := some c1, c2 := some c2, c3 := some c3, c4 := some c4, c5 := some c5 } →
    s.script = .ok [] :: .ok [a0, a1, a2] :: .ok [] :: .ok [b0, b1, b2] :: .ok [] :: .ok [e0, e1] :: rest →
    ∀ (dT : Int) (temp off sens t2 off2 sens2 : Rat) (regime : Regime),
      dT = ((be24 a0 a1 a2).toNat : Int) - (c4.toNat : Int) * 2 ^ 8 →
      temp = 2000 + (dT : Rat) * (c5.toNat : Rat) / 2 ^ 23 →
      off = (c1.toNat : Rat) * 2 ^ 17 + (c3.toNat : Rat) * (dT : Rat) / 2 ^ 6 →
      sens = (c0.toNat : Rat) * 2 ^ 16 + (c2.toNat : Rat) * (dT : Rat) / 2 ^ 7 →
      Claims.SecondOrderTerms dT temp t2 off2 sens2 regime →
      ∃ t, exec .getTph s = .next t ∧ runSteps 8 t = .next { Claims.accepted .getTph none s with
        status := { Claims.clear s.status false with
          vD2 := true, vD1 := true, vD3 := true, vDt := true, vTemp := true, vT := true, vP := true, vRh := true
          regime := regime }
        raw := { d2 := some (be24 a0 a1 a2), d1 := some (be24 b0 b1 b2), d3 := some (be16 e0 e1) }
        res := { dt := some dT, temp := some temp, t := some (temp / 100)
                 p := some ((((be24 b0 b1 b2).toNat : Rat) * (sens - sens2) / 2 ^ 21 - (off - off2)) / 2 ^ 15 / 100)
                 rh := some (-6 + 125 * ((be16 e0 e1).toNat : Rat) / 2 ^ 16 + 18 / 100 * (temp / 100 - 20))
                 off := some off, sens := some sens, t2 := some t2, off2 := some off2
                 sens2 := some sens2, tempc := some (temp - t2) }
        seq := 8, script := rest
        history := s.history ++ Claims.converted s.cfg 0x5A#8 a0 a1 a2 ++ Claims.converted s.cfg 0x4A#8 b0 b1 b2
          ++ Claims.measured s.cfg e0 e1 }

/-- R188: GET_TH whose five events answer `ok`: `T` alone of the temperature part, and the humidity corrected with it. -/
def Obligations.GetThMeasuresTemperatureAndHumidity : Prop :=
  ∀ (s : State) (c4 c5 : Word16) (a0 a1 a2 e0 e1 : Byte) (rest : List BusAnswer),
    s.status.busy = false → s.status.state = .ready → s.schedule = [] →
    s.cal.c4 = some c4 → s.cal.c5 = some c5 →
    s.script = .ok [] :: .ok [a0, a1, a2] :: .ok [] :: .ok [e0, e1] :: rest →
    ∀ (dT : Int) (temp : Rat),
      dT = ((be24 a0 a1 a2).toNat : Int) - (c4.toNat : Int) * 2 ^ 8 →
      temp = 2000 + (dT : Rat) * (c5.toNat : Rat) / 2 ^ 23 →
      ∃ t, exec .getTh s = .next t ∧ runSteps 5 t = .next { Claims.accepted .getTh none s with
        status := { Claims.clear s.status false with vD2 := true, vD3 := true, vT := true, vRh := true }
        raw := { d2 := some (be24 a0 a1 a2), d1 := none, d3 := some (be16 e0 e1) }
        res := { Claims.noResults with
          t := some (temp / 100)
          rh := some (-6 + 125 * ((be16 e0 e1).toNat : Rat) / 2 ^ 16 + 18 / 100 * (temp / 100 - 20)) }
        seq := 5, script := rest
        history := s.history ++ Claims.converted s.cfg 0x5A#8 a0 a1 a2 ++ Claims.measured s.cfg e0 e1 }

/-- R186, R188, R189, R203: a composite whose convert command fails still measures humidity, with no correction. -/
def Obligations.CompositesMeasureHumidityWithoutTemperature : Prop :=
  ∀ (s : State) (i : Instr) (o : Op) (e0 e1 : Byte) (rest : List BusAnswer),
    (i = .getTph ∧ o = .getTph) ∨ (i = .getTh ∧ o = .getTh) →
    s.status.busy = false → s.status.state = .ready → s.schedule = [] →
    s.script = .err :: .ok [] :: .ok [e0, e1] :: rest →
    ∃ t, exec i s = .next t ∧ runSteps 3 t = .next { Claims.accepted o none s with
      status := { Claims.clear s.status false with errT := true, vD3 := true, vRh := true }
      raw := { d2 := none, d1 := none, d3 := some (be16 e0 e1) }
      res := { Claims.noResults with rh := some (-6 + 125 * ((be16 e0 e1).toNat : Rat) / 2 ^ 16) }
      seq := (eventList o).length, script := rest
      history := s.history ++ [{ event := .busWrite s.cfg.addrTp 0x5A#8, answer := .err }]
        ++ Claims.measured s.cfg e0 e1 }

/-! ### The bus commands -/

/-- R102, R121, R142, R171: a command byte whose write answers `ok`: one BusWrite of that byte to its sub-device, `seq`
goes on, and nothing else changes. -/
def Obligations.AnsweredCommandGoesOn : Prop :=
  ∀ row ∈ Claims.commands, row.1 ≠ .busResetRh →
    ∀ s : State, s.nextEvent = some (.command row.2.1) → answerOk 0 s.answer = true →
      exec row.1 s = .next { s.consume with
        seq := s.seq + 1, history := s.history ++ [Claims.wrote row.2.2 row.2.1 s] }

/-- R102: the RH reset command answered `ok` makes the block READY and completes INIT. -/
def Obligations.RhResetCommandCompletesInit : Prop :=
  ∀ s : State, s.nextEvent = some (.command 0xFE#8) → answerOk 0 s.answer = true →
    exec .busResetRh s = .next { s.consume with
      status := { s.status with state := .ready, busy := false }
      seq := 16, history := s.history ++ [Claims.wrote .rh 0xFE#8 s] }

/-- R104: a command of INIT whose write answers `err` ends INIT in FAILED. The model's readings: `seq` = 16 (log 6), and a
write answered `ok` with bytes is taken as `err` (log 10). -/
def Obligations.FailedInitCommandEndsInit : Prop :=
  ∀ row ∈ Claims.commands, (∃ c, (row.1, c) ∈ Claims.initCommands) ∨ row.1 = .busResetRh →
    ∀ s : State, s.nextEvent = some (.command row.2.1) → answerOk 0 s.answer = false →
      exec row.1 s = .next { s.consume with
        status := { s.status with state := .failed, errInit := true, busy := false }
        seq := 16, history := s.history ++ [Claims.wrote row.2.2 row.2.1 s] }

/-- R121, R33, R141, R186, R188: a failed convert-temperature command sets `ERR_T`, skips the wait, the read and `ACQ_P`,
and the composites go on at `ACQ_RH`. The model's readings: `seq` past the last event where no phase is left (log 6), and a
write answered `ok` with bytes is taken as `err` (log 10). -/
def Obligations.FailedConvertTemperatureEndsItsPhase : Prop :=
  ∀ s : State, s.nextEvent = some (.command 0x5A#8) → answerOk 0 s.answer = false →
    ∃ n b, exec .busConvertT s = .next { s.consume with
        status := { s.status with errT := true, busy := b }
        seq := n, history := s.history ++ [Claims.wrote .tp 0x5A#8 s] }
      ∧ (s.op = some .getT → n = 3 ∧ b = false) ∧ (s.op = some .getTp → n = 6 ∧ b = false)
      ∧ (s.op = some .getTph → n = 6 ∧ b = true) ∧ (s.op = some .getTh → n = 3 ∧ b = true)

/-- R142, R33, R141, R186: a failed convert-pressure command sets `ERR_P`, skips the wait and the read; GET_TPH goes on at
`ACQ_RH`. The model's readings: `seq` past the last event of GET_TP (log 6), and a write answered `ok` with bytes is taken as
`err` (log 10). -/
def Obligations.FailedConvertPressureEndsItsPhase : Prop :=
  ∀ s : State, s.nextEvent = some (.command 0x4A#8) → answerOk 0 s.answer = false →
    ∃ b, exec .busConvertP s = .next { s.consume with
        status := { s.status with errP := true, busy := b }
        seq := 6, history := s.history ++ [Claims.wrote .tp 0x4A#8 s] }
      ∧ (s.op = some .getTp → b = false) ∧ (s.op = some .getTph → b = true)

/-- R171: a failed measure command sets `ERR_RH`, skips the read and completes the operation. The model's readings: `seq`
past the last event (log 6), and a write answered `ok` with bytes is taken as `err` (log 10). -/
def Obligations.FailedMeasureHumidityEndsTheOperation : Prop :=
  ∀ s : State, s.nextEvent = some (.command 0xE5#8) → answerOk 0 s.answer = false →
    ∃ o, s.op = some o ∧ exec .busMeasureRh s = .next { s.consume with
      status := { s.status with errRh := true, busy := false }
      seq := (eventList o).length, history := s.history ++ [Claims.wrote .rh 0xE5#8 s] }

/-- R70, R71: a command byte where the running operation's event list does not stand at it stops the model (log 4). -/
def Obligations.CommandOutOfSequenceStops : Prop :=
  ∀ row ∈ Claims.commands, ∀ s : State, s.nextEvent ≠ some (.command row.2.1) →
    exec row.1 s = .fault .outOfSequence

/-! ### Frames -/

/-- What every request leaves as it was, accepted or refused, and what an accepted measurement does. -/
def Obligations.RequestFrame : Prop :=
  ∀ (s t : State) (i : Instr), (i = .init ∨ (Claims.measurement i).isSome = true) → exec i s = .next t →
    t.cfg = s.cfg ∧ t.schedule = s.schedule ∧ t.script = s.script ∧ t.draws = s.draws ∧ t.history = s.history
    ∧ (∃ r, t.replies = s.replies ++ [r])
    ∧ (i ≠ .init → t.cal = s.cal ∧ t.hTp = s.hTp ∧ t.hRh = s.hRh ∧ t.status.state = s.status.state
        ∧ t.status.calCount = s.status.calCount)
    ∧ (t.status.busy = s.status.busy → t.raw = s.raw ∧ t.res = s.res ∧ t.cal = s.cal ∧ t.seq = s.seq ∧ t.op = s.op
        ∧ t.argT = s.argT ∧ t.hTp = s.hTp ∧ t.hRh = s.hRh
        ∧ t.status = { s.status with fault := t.status.fault, faultCode := t.status.faultCode })
    ∧ (t.status.busy ≠ s.status.busy → t.status.fault = s.status.fault ∧ t.status.faultCode = s.status.faultCode)

/-- What every bus command leaves as it was: every register but `STATE`, `BUSY` and the error flags, both latches, the
handles and the configuration; and of these each command may write only its own phase's (60_exceptions.md R201). -/
def Obligations.CommandFrame : Prop :=
  ∀ (s t : State), ∀ row ∈ Claims.commands, exec row.1 s = .next t →
    t.cal = s.cal ∧ t.raw = s.raw ∧ t.res = s.res ∧ t.hTp = s.hTp ∧ t.hRh = s.hRh ∧ t.op = s.op ∧ t.argT = s.argT
    ∧ t.cfg = s.cfg ∧ t.schedule = s.schedule ∧ t.replies = s.replies
    ∧ t.status = { s.status with
        state := t.status.state, busy := t.status.busy, errInit := t.status.errInit, errT := t.status.errT
        errP := t.status.errP, errRh := t.status.errRh }
    ∧ (row.1 = .busConvertT ∨ row.1 = .busConvertP ∨ row.1 = .busMeasureRh →
        t.status.state = s.status.state ∧ t.status.errInit = s.status.errInit)
    ∧ (row.1 ≠ .busConvertT → t.status.errT = s.status.errT)
    ∧ (row.1 ≠ .busConvertP → t.status.errP = s.status.errP)
    ∧ (row.1 ≠ .busMeasureRh → t.status.errRh = s.status.errRh)
    ∧ t.history = s.history ++ [Claims.wrote row.2.2 row.2.1 s]

/-! ### The pipeline in fixed point -/

/-- R126: FIRST_ORDER as integers over a power of two, with their ranges and the widths that hold them. -/
def Obligations.FirstOrderIsExactInFixedPoint : Prop :=
  ∀ (c4 c5 : Word16) (d2 : Word24) (dT : Int), dT = (firstOrder c4 c5 d2).dt →
    (firstOrder c4 c5 d2).temp = (fixTemp c5 dT : Rat) / 2 ^ 23
    ∧ (firstOrder c4 c5 d2).t = (fixTemp c5 dT : Rat) / 838860800
    ∧ -1099478073600 ≤ fixX c5 dT ∧ fixX c5 dT ≤ 1099494785025 ∧ fitsSigned 40 (fixX c5 dT)
    ∧ -1082700857600 ≤ fixTemp c5 dT ∧ fixTemp c5 dT ≤ 1116272001025 ∧ fitsSigned 41 (fixTemp c5 dT)
    ∧ fitsSigned 24 dT

/-- R151: the regime tests on the signs of `X` and `Y`. -/
def Obligations.RegimeFromTheSignsOfXAndY : Prop :=
  ∀ (c5 : Word16) (dT : Int),
    (firstTemp c5 dT < 2000 ↔ fixX c5 dT < 0)
    ∧ (firstTemp c5 dT < -1500 ↔ fixX c5 dT < -29360128000)
    ∧ (secondOrder dT (firstTemp c5 dT)).regime = fixRegime c5 dT
    ∧ (fixX c5 dT < 0 → dT < 0 ∧ 0 < c5.toNat)

/-- R152: every quantity of COMPENSATE is its integer numerator over its fixed power of two. -/
def Obligations.CompensateIsExactInFixedPoint : Prop :=
  ∀ (c0 c1 c2 c3 c5 : Word16) (d1 : Word24) (dT : Int) (r : Compensated),
    r = compensate c0 c1 c2 c3 d1 dT (firstTemp c5 dT) →
    r.off = (fixOff c1 c3 dT : Rat) / 2 ^ 6
    ∧ r.sens = (fixSens c0 c2 dT : Rat) / 2 ^ 7
    ∧ r.t2 = (fixT2 c5 dT : Rat) / 2 ^ 38
    ∧ r.off2 = (fixOff2 c5 dT : Rat) / 2 ^ 50
    ∧ r.sens2 = (fixSens2 c5 dT : Rat) / 2 ^ 50
    ∧ r.tempc = (fixTempc c5 dT : Rat) / 2 ^ 38
    ∧ r.off - r.off2 = (fixOffc c1 c3 c5 dT : Rat) / 2 ^ 50
    ∧ r.sens - r.sens2 = (fixSensc c0 c2 c5 dT : Rat) / 2 ^ 50
    ∧ r.p = (fixP c0 c1 c2 c3 c5 d1 dT : Rat) / (100 * 2 ^ 86)

/-- R153: over all inputs the numerators fit two's-complement registers of 42, 56, 90, 89, 57, 90, 89 and 113 bits. -/
def Obligations.FixedPointWidthsSuffice : Prop :=
  ∀ (c0 c1 c2 c3 c4 c5 : Word16) (d1 d2 : Word24) (dT : Int), dT = deltaT c4 d2 →
    fitsSigned 41 (fixOff c1 c3 dT) ∧ fitsSigned 41 (fixSens c0 c2 dT) ∧ fitsSigned 55 (fixT2 c5 dT)
    ∧ fitsSigned 89 (fixOff2 c5 dT) ∧ fitsSigned 88 (fixSens2 c5 dT) ∧ fitsSigned 56 (fixTempc c5 dT)
    ∧ fitsSigned 89 (fixOffc c1 c3 c5 dT) ∧ fitsSigned 88 (fixSensc c0 c2 c5 dT)
    ∧ fitsSigned 112 (fixP c0 c1 c2 c3 c5 d1 dT)

/-- R177: the humidity numerator, its range and width, and the corrected value; nothing clamps it (R174). -/
def Obligations.HumidityIsExactInFixedPoint : Prop :=
  ∀ (d3 : Word16) (t : Rat),
    humidity d3 none = (fixRh d3 : Rat) / 2 ^ 16
    ∧ humidity d3 (some t) = (fixRh d3 : Rat) / 2 ^ 16 + 9 * (t - 20) / 50
    ∧ -393216 ≤ fixRh d3 ∧ fixRh d3 ≤ 7798659 ∧ fitsSigned 23 (fixRh d3)

/-- R176, R81: the operand 20 and no operand give the same humidity from the same answers, through the whole operation. -/
def Obligations.NeutralOperandIsNoCorrection : Prop :=
  ∀ (s t t' u u' : State), s.status.busy = false → s.status.state = .ready → s.schedule = [] →
    exec (.getRh none) s = .next t → exec (.getRh (some 20)) s = .next t' →
    runSteps 2 t = .next u → runSteps 2 t' = .next u' →
    u' = { u with argT := some 20 }

/-! ### STATUS and the host's view -/

/-- R32: the fields of the STATUS word, its reserved bits reading 0, and the codes of `STATE` (R32), `FAULT_CODE` (R31) and
`REGIME` (R30). -/
def Obligations.StatusWordLayout : Prop :=
  (∀ st : Status, st.calCount ≤ 6 →
    (statusWord st).extractLsb' 0 2 = stateBits st.state
    ∧ (statusWord st).getLsbD 2 = st.busy ∧ (statusWord st).getLsbD 3 = st.fault
    ∧ ((statusWord st).extractLsb' 4 3).toNat = st.calCount
    ∧ (statusWord st).getLsbD 7 = false
    ∧ (statusWord st).getLsbD 8 = st.errInit ∧ (statusWord st).getLsbD 9 = st.errT
    ∧ (statusWord st).getLsbD 10 = st.errP ∧ (statusWord st).getLsbD 11 = st.errRh
    ∧ (statusWord st).extractLsb' 12 4 = faultCodeBits st.faultCode
    ∧ (statusWord st).getLsbD 16 = st.vDt ∧ (statusWord st).getLsbD 17 = st.vTemp
    ∧ (statusWord st).getLsbD 18 = st.vT ∧ (statusWord st).getLsbD 19 = st.vP
    ∧ (statusWord st).getLsbD 20 = st.vRh
    ∧ (statusWord st).extractLsb' 21 2 = regimeBits st.regime
    ∧ (statusWord st).getLsbD 23 = st.vD2 ∧ (statusWord st).getLsbD 24 = st.vD1
    ∧ (statusWord st).getLsbD 25 = st.vD3
    ∧ (statusWord st).extractLsb' 26 6 = 0#6)
  ∧ stateBits .uninit = 0#2 ∧ stateBits .ready = 1#2 ∧ stateBits .failed = 2#2
  ∧ faultCodeBits .none = 0#4 ∧ faultCodeBits .notReady = 1#4 ∧ faultCodeBits .illegal = 2#4
  ∧ faultCodeBits .overlap = 3#4
  ∧ regimeBits .none = 0#2 ∧ regimeBits .high = 1#2 ∧ regimeBits .low = 2#2 ∧ regimeBits .veryLow = 3#2

/-- Index `k` reads as `absent` while its valid bit is 0, and as what its register holds while it is 1. -/
def Sys2Proof.Claims.readsAs (s : State) (k : Nat) (valid : Bool) (held : Option RegValue) : Prop :=
  (valid = false → readRegister s k = some .absent)
  ∧ ∀ v, valid = true → held = some v → readRegister s k = some v

/-- R58: the register behind each listed index, its value read through its valid bit (R39); the reserved indices, and that
a read of one raises ILLEGAL. -/
def Obligations.HostRegisterMap : Prop :=
  ∀ s : State,
    readRegister s 0 = some (.status (statusWord s.status))
    ∧ (∀ k, k < 6 →
        Claims.readsAs s (1 + k) (decide (k < s.status.calCount)) ((s.cal.get k).map RegValue.word16))
    ∧ Claims.readsAs s 0x08 s.status.vD2 (s.raw.d2.map RegValue.word24)
    ∧ Claims.readsAs s 0x09 s.status.vD1 (s.raw.d1.map RegValue.word24)
    ∧ Claims.readsAs s 0x0A s.status.vD3 (s.raw.d3.map RegValue.word16)
    ∧ Claims.readsAs s 0x10 s.status.vDt (s.res.dt.map RegValue.int)
    ∧ Claims.readsAs s 0x11 s.status.vTemp (s.res.temp.map RegValue.rat)
    ∧ Claims.readsAs s 0x12 s.status.vT (s.res.t.map RegValue.rat)
    ∧ Claims.readsAs s 0x13 s.status.vP (s.res.p.map RegValue.rat)
    ∧ Claims.readsAs s 0x14 s.status.vRh (s.res.rh.map RegValue.rat)
    ∧ Claims.readsAs s 0x18 s.status.vP (s.res.off.map RegValue.rat)
    ∧ Claims.readsAs s 0x19 s.status.vP (s.res.sens.map RegValue.rat)
    ∧ Claims.readsAs s 0x1A s.status.vP (s.res.t2.map RegValue.rat)
    ∧ Claims.readsAs s 0x1B s.status.vP (s.res.off2.map RegValue.rat)
    ∧ Claims.readsAs s 0x1C s.status.vP (s.res.sens2.map RegValue.rat)
    ∧ Claims.readsAs s 0x1D s.status.vP (s.res.tempc.map RegValue.rat)
    ∧ (∀ k, readRegister s k = none ↔
        k = 0x07 ∨ (0x0B ≤ k ∧ k ≤ 0x0F) ∨ (0x15 ≤ k ∧ k ≤ 0x17) ∨ k = 0x1E ∨ k = 0x1F ∨ 0x20 ≤ k)
    ∧ ∀ k, readRegister s k = none → (State.hostRead k s).status.fault = true
        ∧ (s.status.fault = false → (State.hostRead k s).status.faultCode = .illegal)

/-- R39, R205: a host read, also while an operation runs, returns the register and changes nothing; of an unlisted index
it returns absent and records ILLEGAL. -/
def Obligations.HostReadsHaveNoSideEffect : Prop :=
  ∀ (s : State) (k : Nat) (rest : List Turn), s.schedule = .read k :: rest →
    (∀ v, readRegister s k = some v →
      step s = .next { s with schedule := rest, replies := s.replies ++ [.value k v] })
    ∧ (indexListed k = false →
      step s = .next { s with
        schedule := rest, replies := s.replies ++ [.value k .absent]
        status := { s.status with
          fault := true, faultCode := if s.status.fault then s.status.faultCode else .illegal } })

/-! ### Rules of the whole machine -/

/-- The invariant holds at reset. -/
def Obligations.InvariantHoldsAtReset : Prop := Inv State.reset

/-- The invariant is kept by every step, whatever the host presents and the bus answers. -/
def Obligations.StepKeepsTheInvariant : Prop := ∀ s t : State, Inv s → step s = .next t → Inv t

/-- From every state of the invariant a step answers a next state: no fault and no refusal of the model is reachable. -/
def Obligations.StepFromTheInvariantNeverStops : Prop := ∀ s : State, Inv s → ∃ t, step s = .next t

/-- R50, R56, R71, R73: every bus event is legal: only the two addresses, only the eleven bytes, each to its sub-device,
only 2-byte reads and 3-byte block reads, only waits of CONV_WAIT. -/
def Obligations.StepKeepsTheHistoryLegal : Prop :=
  ∀ s t : State, legalHistory s → step s = .next t → legalHistory t

/-- R51, R60: a step issues at most one bus event, added at the history's end, and none while the block is idle; the
configuration is never written (R221). -/
def Obligations.OneBusEventAStep : Prop :=
  ∀ s t : State, step s = .next t →
    t.cfg = s.cfg ∧ ∃ l : List BusRecord, t.history = s.history ++ l ∧ l.length ≤ 1 ∧ (s.status.busy = false → l = [])

/-- R22, R25, R34: the calibration file, `STATE` and the handles change only while INIT runs, when an idle block is
presented with an INIT request, or by block reset. -/
def Obligations.OnlyInitWritesCalibrationStateAndHandles : Prop :=
  ∀ s t : State, step s = .next t →
    (t.cal = s.cal ∧ t.status.state = s.status.state ∧ t.hTp = s.hTp ∧ t.hRh = s.hRh
      ∧ t.status.calCount = s.status.calCount)
    ∨ (s.status.busy = true ∧ s.op = some .init)
    ∨ (s.status.busy = false ∧ ∃ r, s.schedule.head? = some (.request r) ∧ decodeRequest r = .instr .init)
    ∨ s.schedule.head? = some .blockReset

/-- R238: while no request is accepted an idle block keeps every result, raw sample, valid bit, error flag and `REGIME`. -/
def Obligations.ResultsLastUntilTheNextAcceptedRequest : Prop :=
  ∀ s t : State, step s = .next t → s.status.busy = false → t.status.busy = false →
    s.schedule.head? ≠ some .blockReset →
    t.res = s.res ∧ t.raw = s.raw
    ∧ t.status = { s.status with fault := t.status.fault, faultCode := t.status.faultCode }

/-- R203, R211: in a measurement the block stays READY, and what an operation has obtained stays as it is until a further
request is accepted. -/
def Obligations.ObtainedFieldsStayToCompletion : Prop :=
  ∀ s t : State, Inv s → s.status.busy = true → s.op ≠ some .init → s.schedule.head? ≠ some .blockReset →
    step s = .next t →
    t.status.state = .ready
    ∧ (s.status.vT = true → t.status.vT = true ∧ t.res.t = s.res.t ∧ t.res.dt = s.res.dt ∧ t.res.temp = s.res.temp
        ∧ t.raw.d2 = s.raw.d2)
    ∧ (s.status.vP = true → t.status.vP = true ∧ t.res.p = s.res.p ∧ t.res.off = s.res.off ∧ t.res.sens = s.res.sens
        ∧ t.res.t2 = s.res.t2 ∧ t.res.off2 = s.res.off2 ∧ t.res.sens2 = s.res.sens2 ∧ t.res.tempc = s.res.tempc
        ∧ t.raw.d1 = s.raw.d1 ∧ t.status.regime = s.status.regime)
    ∧ t.argT = s.argT ∧ t.op = s.op

/-- R234, R235, R236, R103: in every event list a convert command is followed by the wait and by the read of its sample, the
measure command by its read alone; every read of a sample and every wait stands so and nowhere else; `ACQ_P` comes after the
read of `D2`; INIT and GET_RH wait nowhere; the wait is recorded with CONV_WAIT, at least 30 ms. That a step makes the wait
where no turn is left is the model's choice of turns (log 1). -/
def Obligations.ConversionWaitStandsBeforeTheRead : Prop :=
  (∀ (o : Op) (n : Nat),
    ((eventList o)[n]? = some (.command 0x5A#8) →
      (eventList o)[n + 1]? = some .waitConversion ∧ (eventList o)[n + 2]? = some .readD2)
    ∧ ((eventList o)[n]? = some (.command 0x4A#8) →
      (eventList o)[n + 1]? = some .waitConversion ∧ (eventList o)[n + 2]? = some .readD1)
    ∧ ((eventList o)[n]? = some (.command 0xE5#8) → (eventList o)[n + 1]? = some .readD3)
    ∧ ((eventList o)[n]? = some .readD2 → ∃ m, n = m + 2
      ∧ (eventList o)[m]? = some (.command 0x5A#8) ∧ (eventList o)[m + 1]? = some .waitConversion)
    ∧ ((eventList o)[n]? = some .readD1 → ∃ m, n = m + 2
      ∧ (eventList o)[m]? = some (.command 0x4A#8) ∧ (eventList o)[m + 1]? = some .waitConversion)
    ∧ ((eventList o)[n]? = some .readD3 → ∃ m, n = m + 1 ∧ (eventList o)[m]? = some (.command 0xE5#8))
    ∧ ((eventList o)[n]? = some .waitConversion → ∃ m, n = m + 1
      ∧ ((eventList o)[m]? = some (.command 0x5A#8) ∨ (eventList o)[m]? = some (.command 0x4A#8)))
    ∧ ((eventList o)[n]? = some (.command 0x4A#8) → ∃ m, m < n ∧ (eventList o)[m]? = some .readD2))
  ∧ BusStep.waitConversion ∉ eventList .init ∧ BusStep.waitConversion ∉ eventList .getRh
  ∧ (∀ c : Config, c.wellFormed = true ↔ 30 ≤ c.convWaitMs)
  ∧ ∀ s : State, s.nextEvent = some .waitConversion → s.schedule = [] →
      step s = .next { s with
        seq := s.seq + 1, history := s.history ++ [{ event := .sleep s.cfg.convWaitMs, answer := .ok [] }] }

/-- R240: with no further turn of the host, a running operation completes within 16 steps. -/
def Obligations.EveryOperationCompletes : Prop :=
  ∀ s : State, Inv s → s.status.busy = true → s.schedule = [] →
    ∃ n t, n ≤ 16 ∧ runSteps n s = .next t ∧ ended t

/-- The sequencer, one event a step, does exactly what the spec's pseudocode of the whole operation does, for every
operation and all bus answers (R102, R121, R124, R141, R142, R171, R175, R186, R188). Reference.lean writes the pseudocode with
two of the model's own readings in it: `seq` past the last event at the operation's end, also after an error (R33, log 6), and
an open or a write answered `ok` with bytes taken as `err` (log 10). -/
def Obligations.SequencerRunsThePseudocode : Prop :=
  ∀ (s t : State) (i : Instr) (o : Op) (arg : Option Rat),
    (i = .init ∧ o = .init ∧ arg = none) ∨ Claims.measurement i = some (o, arg) →
    s.status.busy = false → s.schedule = [] → exec i s = .next t → t.status.busy = true →
    runSteps 16 t = referenceOperation o t

/-- R189: GET_TPH gives what GET_TP gives, and the humidity of a GET_RH whose operand is that `RES_T` (none where it is
absent), from the same bus answers; GET_TH likewise with GET_T, keeping `T` alone. -/
def Obligations.CompositesEqualSeparateOperations : Prop :=
  ∀ (s t u t1 v t2 w : State), s.status.busy = false → s.status.state = .ready → s.schedule = [] →
    (exec .getTph s = .next t → runSteps 16 t = .next u → exec .getTp s = .next t1 → runSteps 16 t1 = .next v →
      exec (.getRh v.res.t) v = .next t2 → runSteps 16 t2 = .next w →
      u.res = { v.res with rh := w.res.rh } ∧ u.raw = { v.raw with d3 := w.raw.d3 })
    ∧ (exec .getTh s = .next t → runSteps 16 t = .next u → exec .getT s = .next t1 → runSteps 16 t1 = .next v →
      exec (.getRh v.res.t) v = .next t2 → runSteps 16 t2 = .next w →
      u.res = { w.res with t := v.res.t } ∧ u.raw = { v.raw with d3 := w.raw.d3 })

/-- R40: what a measurement writes to the raw and result registers depends on the calibration file, the bus answers and
`ARG_T` alone: two blocks that agree on these end with the same raw and result registers, whatever else they held. -/
def Obligations.OutputsDependOnlyOnCalibrationAnswersAndOperand : Prop :=
  ∀ (s s' t t' u u' : State) (i : Instr) (o : Op) (arg : Option Rat), Claims.measurement i = some (o, arg) →
    s.status.busy = false → s'.status.busy = false → s.status.state = .ready → s'.status.state = .ready →
    s.schedule = [] → s'.schedule = [] → s.cal = s'.cal → s.script = s'.script → s.draws = s'.draws →
    exec i s = .next t → exec i s' = .next t' → runSteps 16 t = .next u → runSteps 16 t' = .next u' →
    u.raw = u'.raw ∧ u.res = u'.res ∧ u.status.regime = u'.status.regime
      ∧ u.status.vT = u'.status.vT ∧ u.status.vTemp = u'.status.vTemp ∧ u.status.vDt = u'.status.vDt
      ∧ u.status.vP = u'.status.vP ∧ u.status.vRh = u'.status.vRh ∧ u.status.vD2 = u'.status.vD2
      ∧ u.status.vD1 = u'.status.vD1 ∧ u.status.vD3 = u'.status.vD3
end

