-- ==== Sys2Proof/Laws/State.lean ====
section
/-! SUPPORT. Beside the state: for every update of it, one lemma per field that the update leaves as it was, and the value
of the fields it writes, tagged simp, so that no later proof unfolds a record update. -/

namespace Sys2Proof.Machine

variable (s : State)

/-! ### `State.consume` -/

@[simp] theorem State.consume_status : (s.consume).status = s.status := by unfold State.consume; split <;> rfl
@[simp] theorem State.consume_cal : (s.consume).cal = s.cal := by unfold State.consume; split <;> rfl
@[simp] theorem State.consume_raw : (s.consume).raw = s.raw := by unfold State.consume; split <;> rfl
@[simp] theorem State.consume_res : (s.consume).res = s.res := by unfold State.consume; split <;> rfl
@[simp] theorem State.consume_seq : (s.consume).seq = s.seq := by unfold State.consume; split <;> rfl
@[simp] theorem State.consume_hTp : (s.consume).hTp = s.hTp := by unfold State.consume; split <;> rfl
@[simp] theorem State.consume_hRh : (s.consume).hRh = s.hRh := by unfold State.consume; split <;> rfl
@[simp] theorem State.consume_op : (s.consume).op = s.op := by unfold State.consume; split <;> rfl
@[simp] theorem State.consume_argT : (s.consume).argT = s.argT := by unfold State.consume; split <;> rfl
@[simp] theorem State.consume_cfg : (s.consume).cfg = s.cfg := by unfold State.consume; split <;> rfl
@[simp] theorem State.consume_schedule : (s.consume).schedule = s.schedule := by unfold State.consume; split <;> rfl
@[simp] theorem State.consume_history : (s.consume).history = s.history := by unfold State.consume; split <;> rfl
@[simp] theorem State.consume_replies : (s.consume).replies = s.replies := by unfold State.consume; split <;> rfl

/-! ### `State.record` -/

@[simp] theorem State.record_status (e : BusEvent) (a : BusAnswer) : (s.record e a).status = s.status := rfl
@[simp] theorem State.record_cal (e : BusEvent) (a : BusAnswer) : (s.record e a).cal = s.cal := rfl
@[simp] theorem State.record_raw (e : BusEvent) (a : BusAnswer) : (s.record e a).raw = s.raw := rfl
@[simp] theorem State.record_res (e : BusEvent) (a : BusAnswer) : (s.record e a).res = s.res := rfl
@[simp] theorem State.record_seq (e : BusEvent) (a : BusAnswer) : (s.record e a).seq = s.seq := rfl
@[simp] theorem State.record_hTp (e : BusEvent) (a : BusAnswer) : (s.record e a).hTp = s.hTp := rfl
@[simp] theorem State.record_hRh (e : BusEvent) (a : BusAnswer) : (s.record e a).hRh = s.hRh := rfl
@[simp] theorem State.record_op (e : BusEvent) (a : BusAnswer) : (s.record e a).op = s.op := rfl
@[simp] theorem State.record_argT (e : BusEvent) (a : BusAnswer) : (s.record e a).argT = s.argT := rfl
@[simp] theorem State.record_cfg (e : BusEvent) (a : BusAnswer) : (s.record e a).cfg = s.cfg := rfl
@[simp] theorem State.record_schedule (e : BusEvent) (a : BusAnswer) : (s.record e a).schedule = s.schedule := rfl
@[simp] theorem State.record_script (e : BusEvent) (a : BusAnswer) : (s.record e a).script = s.script := rfl
@[simp] theorem State.record_draws (e : BusEvent) (a : BusAnswer) : (s.record e a).draws = s.draws := rfl
@[simp] theorem State.record_replies (e : BusEvent) (a : BusAnswer) : (s.record e a).replies = s.replies := rfl

/-! ### `State.exchange` -/

@[simp] theorem State.exchange_status (e : BusEvent) : (s.exchange e).status = s.status := by simp [State.exchange]
@[simp] theorem State.exchange_cal (e : BusEvent) : (s.exchange e).cal = s.cal := by simp [State.exchange]
@[simp] theorem State.exchange_raw (e : BusEvent) : (s.exchange e).raw = s.raw := by simp [State.exchange]
@[simp] theorem State.exchange_res (e : BusEvent) : (s.exchange e).res = s.res := by simp [State.exchange]
@[simp] theorem State.exchange_seq (e : BusEvent) : (s.exchange e).seq = s.seq := by simp [State.exchange]
@[simp] theorem State.exchange_hTp (e : BusEvent) : (s.exchange e).hTp = s.hTp := by simp [State.exchange]
@[simp] theorem State.exchange_hRh (e : BusEvent) : (s.exchange e).hRh = s.hRh := by simp [State.exchange]
@[simp] theorem State.exchange_op (e : BusEvent) : (s.exchange e).op = s.op := by simp [State.exchange]
@[simp] theorem State.exchange_argT (e : BusEvent) : (s.exchange e).argT = s.argT := by simp [State.exchange]
@[simp] theorem State.exchange_cfg (e : BusEvent) : (s.exchange e).cfg = s.cfg := by simp [State.exchange]
@[simp] theorem State.exchange_schedule (e : BusEvent) : (s.exchange e).schedule = s.schedule := by simp [State.exchange]
@[simp] theorem State.exchange_replies (e : BusEvent) : (s.exchange e).replies = s.replies := by simp [State.exchange]

/-! ### `State.complete` -/

@[simp] theorem State.complete_cal : (s.complete).cal = s.cal := rfl
@[simp] theorem State.complete_raw : (s.complete).raw = s.raw := rfl
@[simp] theorem State.complete_res : (s.complete).res = s.res := rfl
@[simp] theorem State.complete_seq : (s.complete).seq = s.seq := rfl
@[simp] theorem State.complete_hTp : (s.complete).hTp = s.hTp := rfl
@[simp] theorem State.complete_hRh : (s.complete).hRh = s.hRh := rfl
@[simp] theorem State.complete_op : (s.complete).op = s.op := rfl
@[simp] theorem State.complete_argT : (s.complete).argT = s.argT := rfl
@[simp] theorem State.complete_cfg : (s.complete).cfg = s.cfg := rfl
@[simp] theorem State.complete_schedule : (s.complete).schedule = s.schedule := rfl
@[simp] theorem State.complete_script : (s.complete).script = s.script := rfl
@[simp] theorem State.complete_draws : (s.complete).draws = s.draws := rfl
@[simp] theorem State.complete_history : (s.complete).history = s.history := rfl
@[simp] theorem State.complete_replies : (s.complete).replies = s.replies := rfl

/-! ### `State.settle` -/

@[simp] theorem State.settle_cal : (s.settle).cal = s.cal := by unfold State.settle; split; (· split <;> rfl); rfl
@[simp] theorem State.settle_raw : (s.settle).raw = s.raw := by unfold State.settle; split; (· split <;> rfl); rfl
@[simp] theorem State.settle_res : (s.settle).res = s.res := by unfold State.settle; split; (· split <;> rfl); rfl
@[simp] theorem State.settle_seq : (s.settle).seq = s.seq := by unfold State.settle; split; (· split <;> rfl); rfl
@[simp] theorem State.settle_hTp : (s.settle).hTp = s.hTp := by unfold State.settle; split; (· split <;> rfl); rfl
@[simp] theorem State.settle_hRh : (s.settle).hRh = s.hRh := by unfold State.settle; split; (· split <;> rfl); rfl
@[simp] theorem State.settle_op : (s.settle).op = s.op := by unfold State.settle; split; (· split <;> rfl); rfl
@[simp] theorem State.settle_argT : (s.settle).argT = s.argT := by unfold State.settle; split; (· split <;> rfl); rfl
@[simp] theorem State.settle_cfg : (s.settle).cfg = s.cfg := by unfold State.settle; split; (· split <;> rfl); rfl
@[simp] theorem State.settle_schedule : (s.settle).schedule = s.schedule := by unfold State.settle; split; (· split <;> rfl); rfl
@[simp] theorem State.settle_script : (s.settle).script = s.script := by unfold State.settle; split; (· split <;> rfl); rfl
@[simp] theorem State.settle_draws : (s.settle).draws = s.draws := by unfold State.settle; split; (· split <;> rfl); rfl
@[simp] theorem State.settle_history : (s.settle).history = s.history := by unfold State.settle; split; (· split <;> rfl); rfl
@[simp] theorem State.settle_replies : (s.settle).replies = s.replies := by unfold State.settle; split; (· split <;> rfl); rfl

/-! ### `State.advance` -/

@[simp] theorem State.advance_cal : (s.advance).cal = s.cal := by simp [State.advance]
@[simp] theorem State.advance_raw : (s.advance).raw = s.raw := by simp [State.advance]
@[simp] theorem State.advance_res : (s.advance).res = s.res := by simp [State.advance]
@[simp] theorem State.advance_hTp : (s.advance).hTp = s.hTp := by simp [State.advance]
@[simp] theorem State.advance_hRh : (s.advance).hRh = s.hRh := by simp [State.advance]
@[simp] theorem State.advance_op : (s.advance).op = s.op := by simp [State.advance]
@[simp] theorem State.advance_argT : (s.advance).argT = s.argT := by simp [State.advance]
@[simp] theorem State.advance_cfg : (s.advance).cfg = s.cfg := by simp [State.advance]
@[simp] theorem State.advance_schedule : (s.advance).schedule = s.schedule := by simp [State.advance]
@[simp] theorem State.advance_script : (s.advance).script = s.script := by simp [State.advance]
@[simp] theorem State.advance_draws : (s.advance).draws = s.draws := by simp [State.advance]
@[simp] theorem State.advance_history : (s.advance).history = s.history := by simp [State.advance]
@[simp] theorem State.advance_replies : (s.advance).replies = s.replies := by simp [State.advance]

/-! ### `State.jump` -/

@[simp] theorem State.jump_status (ph : Phase) : (s.jump ph).status = s.status := by unfold State.jump; split <;> rfl
@[simp] theorem State.jump_cal (ph : Phase) : (s.jump ph).cal = s.cal := by unfold State.jump; split <;> rfl
@[simp] theorem State.jump_raw (ph : Phase) : (s.jump ph).raw = s.raw := by unfold State.jump; split <;> rfl
@[simp] theorem State.jump_res (ph : Phase) : (s.jump ph).res = s.res := by unfold State.jump; split <;> rfl
@[simp] theorem State.jump_hTp (ph : Phase) : (s.jump ph).hTp = s.hTp := by unfold State.jump; split <;> rfl
@[simp] theorem State.jump_hRh (ph : Phase) : (s.jump ph).hRh = s.hRh := by unfold State.jump; split <;> rfl
@[simp] theorem State.jump_op (ph : Phase) : (s.jump ph).op = s.op := by unfold State.jump; split <;> rfl
@[simp] theorem State.jump_argT (ph : Phase) : (s.jump ph).argT = s.argT := by unfold State.jump; split <;> rfl
@[simp] theorem State.jump_cfg (ph : Phase) : (s.jump ph).cfg = s.cfg := by unfold State.jump; split <;> rfl
@[simp] theorem State.jump_schedule (ph : Phase) : (s.jump ph).schedule = s.schedule := by unfold State.jump; split <;> rfl
@[simp] theorem State.jump_script (ph : Phase) : (s.jump ph).script = s.script := by unfold State.jump; split <;> rfl
@[simp] theorem State.jump_draws (ph : Phase) : (s.jump ph).draws = s.draws := by unfold State.jump; split <;> rfl
@[simp] theorem State.jump_history (ph : Phase) : (s.jump ph).history = s.history := by unfold State.jump; split <;> rfl
@[simp] theorem State.jump_replies (ph : Phase) : (s.jump ph).replies = s.replies := by unfold State.jump; split <;> rfl

/-! ### `State.failPhase` -/

@[simp] theorem State.failPhase_cal (ph : Phase) : (s.failPhase ph).cal = s.cal := by simp [State.failPhase]
@[simp] theorem State.failPhase_raw (ph : Phase) : (s.failPhase ph).raw = s.raw := by simp [State.failPhase]
@[simp] theorem State.failPhase_res (ph : Phase) : (s.failPhase ph).res = s.res := by simp [State.failPhase]
@[simp] theorem State.failPhase_hTp (ph : Phase) : (s.failPhase ph).hTp = s.hTp := by simp [State.failPhase]
@[simp] theorem State.failPhase_hRh (ph : Phase) : (s.failPhase ph).hRh = s.hRh := by simp [State.failPhase]
@[simp] theorem State.failPhase_op (ph : Phase) : (s.failPhase ph).op = s.op := by simp [State.failPhase]
@[simp] theorem State.failPhase_argT (ph : Phase) : (s.failPhase ph).argT = s.argT := by simp [State.failPhase]
@[simp] theorem State.failPhase_cfg (ph : Phase) : (s.failPhase ph).cfg = s.cfg := by simp [State.failPhase]
@[simp] theorem State.failPhase_schedule (ph : Phase) : (s.failPhase ph).schedule = s.schedule := by simp [State.failPhase]
@[simp] theorem State.failPhase_script (ph : Phase) : (s.failPhase ph).script = s.script := by simp [State.failPhase]
@[simp] theorem State.failPhase_draws (ph : Phase) : (s.failPhase ph).draws = s.draws := by simp [State.failPhase]
@[simp] theorem State.failPhase_history (ph : Phase) : (s.failPhase ph).history = s.history := by simp [State.failPhase]
@[simp] theorem State.failPhase_replies (ph : Phase) : (s.failPhase ph).replies = s.replies := by simp [State.failPhase]

/-! ### `State.noteError` -/

@[simp] theorem State.noteError_cal (ph : Phase) : (s.noteError ph).cal = s.cal := rfl
@[simp] theorem State.noteError_raw (ph : Phase) : (s.noteError ph).raw = s.raw := rfl
@[simp] theorem State.noteError_res (ph : Phase) : (s.noteError ph).res = s.res := rfl
@[simp] theorem State.noteError_seq (ph : Phase) : (s.noteError ph).seq = s.seq := rfl
@[simp] theorem State.noteError_hTp (ph : Phase) : (s.noteError ph).hTp = s.hTp := rfl
@[simp] theorem State.noteError_hRh (ph : Phase) : (s.noteError ph).hRh = s.hRh := rfl
@[simp] theorem State.noteError_op (ph : Phase) : (s.noteError ph).op = s.op := rfl
@[simp] theorem State.noteError_argT (ph : Phase) : (s.noteError ph).argT = s.argT := rfl
@[simp] theorem State.noteError_cfg (ph : Phase) : (s.noteError ph).cfg = s.cfg := rfl
@[simp] theorem State.noteError_schedule (ph : Phase) : (s.noteError ph).schedule = s.schedule := rfl
@[simp] theorem State.noteError_script (ph : Phase) : (s.noteError ph).script = s.script := rfl
@[simp] theorem State.noteError_draws (ph : Phase) : (s.noteError ph).draws = s.draws := rfl
@[simp] theorem State.noteError_history (ph : Phase) : (s.noteError ph).history = s.history := rfl
@[simp] theorem State.noteError_replies (ph : Phase) : (s.noteError ph).replies = s.replies := rfl

/-! ### `State.reply` -/

@[simp] theorem State.reply_status (r : Reply) : (s.reply r).status = s.status := rfl
@[simp] theorem State.reply_cal (r : Reply) : (s.reply r).cal = s.cal := rfl
@[simp] theorem State.reply_raw (r : Reply) : (s.reply r).raw = s.raw := rfl
@[simp] theorem State.reply_res (r : Reply) : (s.reply r).res = s.res := rfl
@[simp] theorem State.reply_seq (r : Reply) : (s.reply r).seq = s.seq := rfl
@[simp] theorem State.reply_hTp (r : Reply) : (s.reply r).hTp = s.hTp := rfl
@[simp] theorem State.reply_hRh (r : Reply) : (s.reply r).hRh = s.hRh := rfl
@[simp] theorem State.reply_op (r : Reply) : (s.reply r).op = s.op := rfl
@[simp] theorem State.reply_argT (r : Reply) : (s.reply r).argT = s.argT := rfl
@[simp] theorem State.reply_cfg (r : Reply) : (s.reply r).cfg = s.cfg := rfl
@[simp] theorem State.reply_schedule (r : Reply) : (s.reply r).schedule = s.schedule := rfl
@[simp] theorem State.reply_script (r : Reply) : (s.reply r).script = s.script := rfl
@[simp] theorem State.reply_draws (r : Reply) : (s.reply r).draws = s.draws := rfl
@[simp] theorem State.reply_history (r : Reply) : (s.reply r).history = s.history := rfl

/-! ### `State.raiseFault` -/

@[simp] theorem State.raiseFault_cal (c : FaultCode) : (s.raiseFault c).cal = s.cal := rfl
@[simp] theorem State.raiseFault_raw (c : FaultCode) : (s.raiseFault c).raw = s.raw := rfl
@[simp] theorem State.raiseFault_res (c : FaultCode) : (s.raiseFault c).res = s.res := rfl
@[simp] theorem State.raiseFault_seq (c : FaultCode) : (s.raiseFault c).seq = s.seq := rfl
@[simp] theorem State.raiseFault_hTp (c : FaultCode) : (s.raiseFault c).hTp = s.hTp := rfl
@[simp] theorem State.raiseFault_hRh (c : FaultCode) : (s.raiseFault c).hRh = s.hRh := rfl
@[simp] theorem State.raiseFault_op (c : FaultCode) : (s.raiseFault c).op = s.op := rfl
@[simp] theorem State.raiseFault_argT (c : FaultCode) : (s.raiseFault c).argT = s.argT := rfl
@[simp] theorem State.raiseFault_cfg (c : FaultCode) : (s.raiseFault c).cfg = s.cfg := rfl
@[simp] theorem State.raiseFault_schedule (c : FaultCode) : (s.raiseFault c).schedule = s.schedule := rfl
@[simp] theorem State.raiseFault_script (c : FaultCode) : (s.raiseFault c).script = s.script := rfl
@[simp] theorem State.raiseFault_draws (c : FaultCode) : (s.raiseFault c).draws = s.draws := rfl
@[simp] theorem State.raiseFault_history (c : FaultCode) : (s.raiseFault c).history = s.history := rfl
@[simp] theorem State.raiseFault_replies (c : FaultCode) : (s.raiseFault c).replies = s.replies := rfl

/-! ### `State.refuse` -/

@[simp] theorem State.refuse_cal (c : FaultCode) : (s.refuse c).cal = s.cal := rfl
@[simp] theorem State.refuse_raw (c : FaultCode) : (s.refuse c).raw = s.raw := rfl
@[simp] theorem State.refuse_res (c : FaultCode) : (s.refuse c).res = s.res := rfl
@[simp] theorem State.refuse_seq (c : FaultCode) : (s.refuse c).seq = s.seq := rfl
@[simp] theorem State.refuse_hTp (c : FaultCode) : (s.refuse c).hTp = s.hTp := rfl
@[simp] theorem State.refuse_hRh (c : FaultCode) : (s.refuse c).hRh = s.hRh := rfl
@[simp] theorem State.refuse_op (c : FaultCode) : (s.refuse c).op = s.op := rfl
@[simp] theorem State.refuse_argT (c : FaultCode) : (s.refuse c).argT = s.argT := rfl
@[simp] theorem State.refuse_cfg (c : FaultCode) : (s.refuse c).cfg = s.cfg := rfl
@[simp] theorem State.refuse_schedule (c : FaultCode) : (s.refuse c).schedule = s.schedule := rfl
@[simp] theorem State.refuse_script (c : FaultCode) : (s.refuse c).script = s.script := rfl
@[simp] theorem State.refuse_draws (c : FaultCode) : (s.refuse c).draws = s.draws := rfl
@[simp] theorem State.refuse_history (c : FaultCode) : (s.refuse c).history = s.history := rfl

/-! ### `State.accept` -/

@[simp] theorem State.accept_cal (o : Op) (arg : Option Rat) : (s.accept o arg).cal = s.cal := rfl
@[simp] theorem State.accept_hTp (o : Op) (arg : Option Rat) : (s.accept o arg).hTp = s.hTp := rfl
@[simp] theorem State.accept_hRh (o : Op) (arg : Option Rat) : (s.accept o arg).hRh = s.hRh := rfl
@[simp] theorem State.accept_cfg (o : Op) (arg : Option Rat) : (s.accept o arg).cfg = s.cfg := rfl
@[simp] theorem State.accept_schedule (o : Op) (arg : Option Rat) : (s.accept o arg).schedule = s.schedule := rfl
@[simp] theorem State.accept_script (o : Op) (arg : Option Rat) : (s.accept o arg).script = s.script := rfl
@[simp] theorem State.accept_draws (o : Op) (arg : Option Rat) : (s.accept o arg).draws = s.draws := rfl
@[simp] theorem State.accept_history (o : Op) (arg : Option Rat) : (s.accept o arg).history = s.history := rfl

/-! ### `State.startInit` -/

@[simp] theorem State.startInit_raw : (s.startInit).raw = s.raw := rfl
@[simp] theorem State.startInit_res : (s.startInit).res = s.res := rfl
@[simp] theorem State.startInit_seq : (s.startInit).seq = s.seq := rfl
@[simp] theorem State.startInit_op : (s.startInit).op = s.op := rfl
@[simp] theorem State.startInit_argT : (s.startInit).argT = s.argT := rfl
@[simp] theorem State.startInit_cfg : (s.startInit).cfg = s.cfg := rfl
@[simp] theorem State.startInit_schedule : (s.startInit).schedule = s.schedule := rfl
@[simp] theorem State.startInit_script : (s.startInit).script = s.script := rfl
@[simp] theorem State.startInit_draws : (s.startInit).draws = s.draws := rfl
@[simp] theorem State.startInit_history : (s.startInit).history = s.history := rfl
@[simp] theorem State.startInit_replies : (s.startInit).replies = s.replies := rfl

/-! ### `State.setHandle` -/

@[simp] theorem State.setHandle_status (d : Device) : (s.setHandle d).status = s.status := by cases d <;> rfl
@[simp] theorem State.setHandle_cal (d : Device) : (s.setHandle d).cal = s.cal := by cases d <;> rfl
@[simp] theorem State.setHandle_raw (d : Device) : (s.setHandle d).raw = s.raw := by cases d <;> rfl
@[simp] theorem State.setHandle_res (d : Device) : (s.setHandle d).res = s.res := by cases d <;> rfl
@[simp] theorem State.setHandle_seq (d : Device) : (s.setHandle d).seq = s.seq := by cases d <;> rfl
@[simp] theorem State.setHandle_op (d : Device) : (s.setHandle d).op = s.op := by cases d <;> rfl
@[simp] theorem State.setHandle_argT (d : Device) : (s.setHandle d).argT = s.argT := by cases d <;> rfl
@[simp] theorem State.setHandle_cfg (d : Device) : (s.setHandle d).cfg = s.cfg := by cases d <;> rfl
@[simp] theorem State.setHandle_schedule (d : Device) : (s.setHandle d).schedule = s.schedule := by cases d <;> rfl
@[simp] theorem State.setHandle_script (d : Device) : (s.setHandle d).script = s.script := by cases d <;> rfl
@[simp] theorem State.setHandle_draws (d : Device) : (s.setHandle d).draws = s.draws := by cases d <;> rfl
@[simp] theorem State.setHandle_history (d : Device) : (s.setHandle d).history = s.history := by cases d <;> rfl
@[simp] theorem State.setHandle_replies (d : Device) : (s.setHandle d).replies = s.replies := by cases d <;> rfl

/-! ### `State.writeCal` -/

@[simp] theorem State.writeCal_raw (k : Nat) (v : Word16) : (s.writeCal k v).raw = s.raw := rfl
@[simp] theorem State.writeCal_res (k : Nat) (v : Word16) : (s.writeCal k v).res = s.res := rfl
@[simp] theorem State.writeCal_seq (k : Nat) (v : Word16) : (s.writeCal k v).seq = s.seq := rfl
@[simp] theorem State.writeCal_hTp (k : Nat) (v : Word16) : (s.writeCal k v).hTp = s.hTp := rfl
@[simp] theorem State.writeCal_hRh (k : Nat) (v : Word16) : (s.writeCal k v).hRh = s.hRh := rfl
@[simp] theorem State.writeCal_op (k : Nat) (v : Word16) : (s.writeCal k v).op = s.op := rfl
@[simp] theorem State.writeCal_argT (k : Nat) (v : Word16) : (s.writeCal k v).argT = s.argT := rfl
@[simp] theorem State.writeCal_cfg (k : Nat) (v : Word16) : (s.writeCal k v).cfg = s.cfg := rfl
@[simp] theorem State.writeCal_schedule (k : Nat) (v : Word16) : (s.writeCal k v).schedule = s.schedule := rfl
@[simp] theorem State.writeCal_script (k : Nat) (v : Word16) : (s.writeCal k v).script = s.script := rfl
@[simp] theorem State.writeCal_draws (k : Nat) (v : Word16) : (s.writeCal k v).draws = s.draws := rfl
@[simp] theorem State.writeCal_history (k : Nat) (v : Word16) : (s.writeCal k v).history = s.history := rfl
@[simp] theorem State.writeCal_replies (k : Nat) (v : Word16) : (s.writeCal k v).replies = s.replies := rfl

/-! ### `State.setReady` -/

@[simp] theorem State.setReady_cal : (s.setReady).cal = s.cal := rfl
@[simp] theorem State.setReady_raw : (s.setReady).raw = s.raw := rfl
@[simp] theorem State.setReady_res : (s.setReady).res = s.res := rfl
@[simp] theorem State.setReady_seq : (s.setReady).seq = s.seq := rfl
@[simp] theorem State.setReady_hTp : (s.setReady).hTp = s.hTp := rfl
@[simp] theorem State.setReady_hRh : (s.setReady).hRh = s.hRh := rfl
@[simp] theorem State.setReady_op : (s.setReady).op = s.op := rfl
@[simp] theorem State.setReady_argT : (s.setReady).argT = s.argT := rfl
@[simp] theorem State.setReady_cfg : (s.setReady).cfg = s.cfg := rfl
@[simp] theorem State.setReady_schedule : (s.setReady).schedule = s.schedule := rfl
@[simp] theorem State.setReady_script : (s.setReady).script = s.script := rfl
@[simp] theorem State.setReady_draws : (s.setReady).draws = s.draws := rfl
@[simp] theorem State.setReady_history : (s.setReady).history = s.history := rfl
@[simp] theorem State.setReady_replies : (s.setReady).replies = s.replies := rfl

/-! ### `State.writeD2` -/

@[simp] theorem State.writeD2_cal (v : Word24) : (s.writeD2 v).cal = s.cal := rfl
@[simp] theorem State.writeD2_res (v : Word24) : (s.writeD2 v).res = s.res := rfl
@[simp] theorem State.writeD2_seq (v : Word24) : (s.writeD2 v).seq = s.seq := rfl
@[simp] theorem State.writeD2_hTp (v : Word24) : (s.writeD2 v).hTp = s.hTp := rfl
@[simp] theorem State.writeD2_hRh (v : Word24) : (s.writeD2 v).hRh = s.hRh := rfl
@[simp] theorem State.writeD2_op (v : Word24) : (s.writeD2 v).op = s.op := rfl
@[simp] theorem State.writeD2_argT (v : Word24) : (s.writeD2 v).argT = s.argT := rfl
@[simp] theorem State.writeD2_cfg (v : Word24) : (s.writeD2 v).cfg = s.cfg := rfl
@[simp] theorem State.writeD2_schedule (v : Word24) : (s.writeD2 v).schedule = s.schedule := rfl
@[simp] theorem State.writeD2_script (v : Word24) : (s.writeD2 v).script = s.script := rfl
@[simp] theorem State.writeD2_draws (v : Word24) : (s.writeD2 v).draws = s.draws := rfl
@[simp] theorem State.writeD2_history (v : Word24) : (s.writeD2 v).history = s.history := rfl
@[simp] theorem State.writeD2_replies (v : Word24) : (s.writeD2 v).replies = s.replies := rfl

/-! ### `State.writeFirstOrder` -/

@[simp] theorem State.writeFirstOrder_cal (f : FirstOrder) : (s.writeFirstOrder f).cal = s.cal := rfl
@[simp] theorem State.writeFirstOrder_raw (f : FirstOrder) : (s.writeFirstOrder f).raw = s.raw := rfl
@[simp] theorem State.writeFirstOrder_seq (f : FirstOrder) : (s.writeFirstOrder f).seq = s.seq := rfl
@[simp] theorem State.writeFirstOrder_hTp (f : FirstOrder) : (s.writeFirstOrder f).hTp = s.hTp := rfl
@[simp] theorem State.writeFirstOrder_hRh (f : FirstOrder) : (s.writeFirstOrder f).hRh = s.hRh := rfl
@[simp] theorem State.writeFirstOrder_op (f : FirstOrder) : (s.writeFirstOrder f).op = s.op := rfl
@[simp] theorem State.writeFirstOrder_argT (f : FirstOrder) : (s.writeFirstOrder f).argT = s.argT := rfl
@[simp] theorem State.writeFirstOrder_cfg (f : FirstOrder) : (s.writeFirstOrder f).cfg = s.cfg := rfl
@[simp] theorem State.writeFirstOrder_schedule (f : FirstOrder) : (s.writeFirstOrder f).schedule = s.schedule := rfl
@[simp] theorem State.writeFirstOrder_script (f : FirstOrder) : (s.writeFirstOrder f).script = s.script := rfl
@[simp] theorem State.writeFirstOrder_draws (f : FirstOrder) : (s.writeFirstOrder f).draws = s.draws := rfl
@[simp] theorem State.writeFirstOrder_history (f : FirstOrder) : (s.writeFirstOrder f).history = s.history := rfl
@[simp] theorem State.writeFirstOrder_replies (f : FirstOrder) : (s.writeFirstOrder f).replies = s.replies := rfl

/-! ### `State.writeTOnly` -/

@[simp] theorem State.writeTOnly_cal (f : FirstOrder) : (s.writeTOnly f).cal = s.cal := rfl
@[simp] theorem State.writeTOnly_raw (f : FirstOrder) : (s.writeTOnly f).raw = s.raw := rfl
@[simp] theorem State.writeTOnly_seq (f : FirstOrder) : (s.writeTOnly f).seq = s.seq := rfl
@[simp] theorem State.writeTOnly_hTp (f : FirstOrder) : (s.writeTOnly f).hTp = s.hTp := rfl
@[simp] theorem State.writeTOnly_hRh (f : FirstOrder) : (s.writeTOnly f).hRh = s.hRh := rfl
@[simp] theorem State.writeTOnly_op (f : FirstOrder) : (s.writeTOnly f).op = s.op := rfl
@[simp] theorem State.writeTOnly_argT (f : FirstOrder) : (s.writeTOnly f).argT = s.argT := rfl
@[simp] theorem State.writeTOnly_cfg (f : FirstOrder) : (s.writeTOnly f).cfg = s.cfg := rfl
@[simp] theorem State.writeTOnly_schedule (f : FirstOrder) : (s.writeTOnly f).schedule = s.schedule := rfl
@[simp] theorem State.writeTOnly_script (f : FirstOrder) : (s.writeTOnly f).script = s.script := rfl
@[simp] theorem State.writeTOnly_draws (f : FirstOrder) : (s.writeTOnly f).draws = s.draws := rfl
@[simp] theorem State.writeTOnly_history (f : FirstOrder) : (s.writeTOnly f).history = s.history := rfl
@[simp] theorem State.writeTOnly_replies (f : FirstOrder) : (s.writeTOnly f).replies = s.replies := rfl

/-! ### `State.keepFirstOrder` -/

@[simp] theorem State.keepFirstOrder_cal (f : FirstOrder) : (s.keepFirstOrder f).cal = s.cal := by unfold State.keepFirstOrder; split <;> rfl
@[simp] theorem State.keepFirstOrder_raw (f : FirstOrder) : (s.keepFirstOrder f).raw = s.raw := by unfold State.keepFirstOrder; split <;> rfl
@[simp] theorem State.keepFirstOrder_seq (f : FirstOrder) : (s.keepFirstOrder f).seq = s.seq := by unfold State.keepFirstOrder; split <;> rfl
@[simp] theorem State.keepFirstOrder_hTp (f : FirstOrder) : (s.keepFirstOrder f).hTp = s.hTp := by unfold State.keepFirstOrder; split <;> rfl
@[simp] theorem State.keepFirstOrder_hRh (f : FirstOrder) : (s.keepFirstOrder f).hRh = s.hRh := by unfold State.keepFirstOrder; split <;> rfl
@[simp] theorem State.keepFirstOrder_op (f : FirstOrder) : (s.keepFirstOrder f).op = s.op := by unfold State.keepFirstOrder; split <;> rfl
@[simp] theorem State.keepFirstOrder_argT (f : FirstOrder) : (s.keepFirstOrder f).argT = s.argT := by unfold State.keepFirstOrder; split <;> rfl
@[simp] theorem State.keepFirstOrder_cfg (f : FirstOrder) : (s.keepFirstOrder f).cfg = s.cfg := by unfold State.keepFirstOrder; split <;> rfl
@[simp] theorem State.keepFirstOrder_schedule (f : FirstOrder) : (s.keepFirstOrder f).schedule = s.schedule := by unfold State.keepFirstOrder; split <;> rfl
@[simp] theorem State.keepFirstOrder_script (f : FirstOrder) : (s.keepFirstOrder f).script = s.script := by unfold State.keepFirstOrder; split <;> rfl
@[simp] theorem State.keepFirstOrder_draws (f : FirstOrder) : (s.keepFirstOrder f).draws = s.draws := by unfold State.keepFirstOrder; split <;> rfl
@[simp] theorem State.keepFirstOrder_history (f : FirstOrder) : (s.keepFirstOrder f).history = s.history := by unfold State.keepFirstOrder; split <;> rfl
@[simp] theorem State.keepFirstOrder_replies (f : FirstOrder) : (s.keepFirstOrder f).replies = s.replies := by unfold State.keepFirstOrder; split <;> rfl

/-! ### `State.writeD1` -/

@[simp] theorem State.writeD1_cal (v : Word24) : (s.writeD1 v).cal = s.cal := rfl
@[simp] theorem State.writeD1_res (v : Word24) : (s.writeD1 v).res = s.res := rfl
@[simp] theorem State.writeD1_seq (v : Word24) : (s.writeD1 v).seq = s.seq := rfl
@[simp] theorem State.writeD1_hTp (v : Word24) : (s.writeD1 v).hTp = s.hTp := rfl
@[simp] theorem State.writeD1_hRh (v : Word24) : (s.writeD1 v).hRh = s.hRh := rfl
@[simp] theorem State.writeD1_op (v : Word24) : (s.writeD1 v).op = s.op := rfl
@[simp] theorem State.writeD1_argT (v : Word24) : (s.writeD1 v).argT = s.argT := rfl
@[simp] theorem State.writeD1_cfg (v : Word24) : (s.writeD1 v).cfg = s.cfg := rfl
@[simp] theorem State.writeD1_schedule (v : Word24) : (s.writeD1 v).schedule = s.schedule := rfl
@[simp] theorem State.writeD1_script (v : Word24) : (s.writeD1 v).script = s.script := rfl
@[simp] theorem State.writeD1_draws (v : Word24) : (s.writeD1 v).draws = s.draws := rfl
@[simp] theorem State.writeD1_history (v : Word24) : (s.writeD1 v).history = s.history := rfl
@[simp] theorem State.writeD1_replies (v : Word24) : (s.writeD1 v).replies = s.replies := rfl

/-! ### `State.writeCompensated` -/

@[simp] theorem State.writeCompensated_cal (c : Compensated) : (s.writeCompensated c).cal = s.cal := rfl
@[simp] theorem State.writeCompensated_raw (c : Compensated) : (s.writeCompensated c).raw = s.raw := rfl
@[simp] theorem State.writeCompensated_seq (c : Compensated) : (s.writeCompensated c).seq = s.seq := rfl
@[simp] theorem State.writeCompensated_hTp (c : Compensated) : (s.writeCompensated c).hTp = s.hTp := rfl
@[simp] theorem State.writeCompensated_hRh (c : Compensated) : (s.writeCompensated c).hRh = s.hRh := rfl
@[simp] theorem State.writeCompensated_op (c : Compensated) : (s.writeCompensated c).op = s.op := rfl
@[simp] theorem State.writeCompensated_argT (c : Compensated) : (s.writeCompensated c).argT = s.argT := rfl
@[simp] theorem State.writeCompensated_cfg (c : Compensated) : (s.writeCompensated c).cfg = s.cfg := rfl
@[simp] theorem State.writeCompensated_schedule (c : Compensated) : (s.writeCompensated c).schedule = s.schedule := rfl
@[simp] theorem State.writeCompensated_script (c : Compensated) : (s.writeCompensated c).script = s.script := rfl
@[simp] theorem State.writeCompensated_draws (c : Compensated) : (s.writeCompensated c).draws = s.draws := rfl
@[simp] theorem State.writeCompensated_history (c : Compensated) : (s.writeCompensated c).history = s.history := rfl
@[simp] theorem State.writeCompensated_replies (c : Compensated) : (s.writeCompensated c).replies = s.replies := rfl

/-! ### `State.writeD3` -/

@[simp] theorem State.writeD3_cal (v : Word16) : (s.writeD3 v).cal = s.cal := rfl
@[simp] theorem State.writeD3_res (v : Word16) : (s.writeD3 v).res = s.res := rfl
@[simp] theorem State.writeD3_seq (v : Word16) : (s.writeD3 v).seq = s.seq := rfl
@[simp] theorem State.writeD3_hTp (v : Word16) : (s.writeD3 v).hTp = s.hTp := rfl
@[simp] theorem State.writeD3_hRh (v : Word16) : (s.writeD3 v).hRh = s.hRh := rfl
@[simp] theorem State.writeD3_op (v : Word16) : (s.writeD3 v).op = s.op := rfl
@[simp] theorem State.writeD3_argT (v : Word16) : (s.writeD3 v).argT = s.argT := rfl
@[simp] theorem State.writeD3_cfg (v : Word16) : (s.writeD3 v).cfg = s.cfg := rfl
@[simp] theorem State.writeD3_schedule (v : Word16) : (s.writeD3 v).schedule = s.schedule := rfl
@[simp] theorem State.writeD3_script (v : Word16) : (s.writeD3 v).script = s.script := rfl
@[simp] theorem State.writeD3_draws (v : Word16) : (s.writeD3 v).draws = s.draws := rfl
@[simp] theorem State.writeD3_history (v : Word16) : (s.writeD3 v).history = s.history := rfl
@[simp] theorem State.writeD3_replies (v : Word16) : (s.writeD3 v).replies = s.replies := rfl

/-! ### `State.writeRh` -/

@[simp] theorem State.writeRh_cal (v : Rat) : (s.writeRh v).cal = s.cal := rfl
@[simp] theorem State.writeRh_raw (v : Rat) : (s.writeRh v).raw = s.raw := rfl
@[simp] theorem State.writeRh_seq (v : Rat) : (s.writeRh v).seq = s.seq := rfl
@[simp] theorem State.writeRh_hTp (v : Rat) : (s.writeRh v).hTp = s.hTp := rfl
@[simp] theorem State.writeRh_hRh (v : Rat) : (s.writeRh v).hRh = s.hRh := rfl
@[simp] theorem State.writeRh_op (v : Rat) : (s.writeRh v).op = s.op := rfl
@[simp] theorem State.writeRh_argT (v : Rat) : (s.writeRh v).argT = s.argT := rfl
@[simp] theorem State.writeRh_cfg (v : Rat) : (s.writeRh v).cfg = s.cfg := rfl
@[simp] theorem State.writeRh_schedule (v : Rat) : (s.writeRh v).schedule = s.schedule := rfl
@[simp] theorem State.writeRh_script (v : Rat) : (s.writeRh v).script = s.script := rfl
@[simp] theorem State.writeRh_draws (v : Rat) : (s.writeRh v).draws = s.draws := rfl
@[simp] theorem State.writeRh_history (v : Rat) : (s.writeRh v).history = s.history := rfl
@[simp] theorem State.writeRh_replies (v : Rat) : (s.writeRh v).replies = s.replies := rfl


/-! ### The fields an update writes -/

@[simp] theorem State.record_history (e : BusEvent) (a : BusAnswer) :
    (s.record e a).history = s.history ++ [{ event := e, answer := a }] := rfl
@[simp] theorem State.exchange_history (e : BusEvent) :
    (s.exchange e).history = s.history ++ [{ event := e, answer := s.answer }] := by simp [State.exchange]
@[simp] theorem State.exchange_script (e : BusEvent) : (s.exchange e).script = s.script.tail := by
  unfold State.exchange State.record State.consume; split <;> simp_all
@[simp] theorem State.complete_status : s.complete.status = { s.status with busy := false } := rfl
@[simp] theorem State.noteError_status (ph : Phase) : (s.noteError ph).status = s.status.withError ph := rfl
@[simp] theorem State.reply_replies (r : Reply) : (s.reply r).replies = s.replies ++ [r] := rfl
@[simp] theorem State.raiseFault_status (c : FaultCode) : (s.raiseFault c).status = s.status.withFault c := rfl
@[simp] theorem State.refuse_status (c : FaultCode) : (s.refuse c).status = s.status.withFault c := rfl
@[simp] theorem State.refuse_replies (c : FaultCode) : (s.refuse c).replies = s.replies ++ [.refused c] := rfl
@[simp] theorem State.accept_status (o : Op) (arg : Option Rat) :
    (s.accept o arg).status = { s.status.cleared with busy := true } := rfl
@[simp] theorem State.accept_raw (o : Op) (arg : Option Rat) : (s.accept o arg).raw = RawRegs.empty := rfl
@[simp] theorem State.accept_res (o : Op) (arg : Option Rat) : (s.accept o arg).res = ResultRegs.empty := rfl
@[simp] theorem State.accept_seq (o : Op) (arg : Option Rat) : (s.accept o arg).seq = 0 := rfl
@[simp] theorem State.accept_op (o : Op) (arg : Option Rat) : (s.accept o arg).op = some o := rfl
@[simp] theorem State.accept_argT (o : Op) (arg : Option Rat) : (s.accept o arg).argT = arg := rfl
@[simp] theorem State.accept_replies (o : Op) (arg : Option Rat) :
    (s.accept o arg).replies = s.replies ++ [.accepted o] := rfl
@[simp] theorem State.startInit_status :
    s.startInit.status = { s.status with state := .uninit, calCount := 0 } := rfl
@[simp] theorem State.startInit_cal : s.startInit.cal = CalFile.empty := rfl
@[simp] theorem State.startInit_hTp : s.startInit.hTp = false := rfl
@[simp] theorem State.startInit_hRh : s.startInit.hRh = false := rfl
@[simp] theorem State.setHandle_hTp_tp : (s.setHandle .tp).hTp = true := rfl
@[simp] theorem State.setHandle_hRh_tp : (s.setHandle .tp).hRh = s.hRh := rfl
@[simp] theorem State.setHandle_hTp_rh : (s.setHandle .rh).hTp = s.hTp := rfl
@[simp] theorem State.setHandle_hRh_rh : (s.setHandle .rh).hRh = true := rfl
@[simp] theorem State.writeCal_cal (k : Nat) (v : Word16) : (s.writeCal k v).cal = s.cal.set k v := rfl
@[simp] theorem State.writeCal_status (k : Nat) (v : Word16) :
    (s.writeCal k v).status = { s.status with calCount := k + 1 } := rfl
@[simp] theorem State.setReady_status : s.setReady.status = { s.status with state := .ready } := rfl
@[simp] theorem State.writeD2_raw (v : Word24) : (s.writeD2 v).raw = { s.raw with d2 := some v } := rfl
@[simp] theorem State.writeD2_status (v : Word24) : (s.writeD2 v).status = { s.status with vD2 := true } := rfl
@[simp] theorem State.writeD1_raw (v : Word24) : (s.writeD1 v).raw = { s.raw with d1 := some v } := rfl
@[simp] theorem State.writeD1_status (v : Word24) : (s.writeD1 v).status = { s.status with vD1 := true } := rfl
@[simp] theorem State.writeD3_raw (v : Word16) : (s.writeD3 v).raw = { s.raw with d3 := some v } := rfl
@[simp] theorem State.writeD3_status (v : Word16) : (s.writeD3 v).status = { s.status with vD3 := true } := rfl
@[simp] theorem State.writeRh_res (v : Rat) : (s.writeRh v).res = { s.res with rh := some v } := rfl
@[simp] theorem State.writeRh_status (v : Rat) : (s.writeRh v).status = { s.status with vRh := true } := rfl
@[simp] theorem State.writeFirstOrder_res (f : FirstOrder) :
    (s.writeFirstOrder f).res = { s.res with dt := some f.dt, temp := some f.temp, t := some f.t } := rfl
@[simp] theorem State.writeFirstOrder_status (f : FirstOrder) :
    (s.writeFirstOrder f).status = { s.status with vDt := true, vTemp := true, vT := true } := rfl
@[simp] theorem State.writeTOnly_res (f : FirstOrder) : (s.writeTOnly f).res = { s.res with t := some f.t } := rfl
@[simp] theorem State.writeTOnly_status (f : FirstOrder) :
    (s.writeTOnly f).status = { s.status with vT := true } := rfl
@[simp] theorem State.writeCompensated_res (c : Compensated) :
    (s.writeCompensated c).res = { s.res with
      p := some c.p, off := some c.off, sens := some c.sens, t2 := some c.t2, off2 := some c.off2,
      sens2 := some c.sens2, tempc := some c.tempc } := rfl
@[simp] theorem State.writeCompensated_status (c : Compensated) :
    (s.writeCompensated c).status = { s.status with vP := true, regime := c.regime } := rfl
@[simp] theorem State.advance_seq : s.advance.seq = s.seq + 1 := by simp [State.advance]
theorem State.jump_seq (ph : Phase) {o : Op} (h : s.op = some o) : (s.jump ph).seq = resumeAt o ph := by
  simp [State.jump, h]
theorem State.failPhase_seq (ph : Phase) {o : Op} (h : s.op = some o) : (s.failPhase ph).seq = resumeAt o ph := by
  simp [State.failPhase, State.jump, h]

/-! ### STATUS after the sequencer's moves: only `BUSY` can change -/

/-- Settling clears `BUSY` past the last event and changes no other field. -/
theorem State.settle_status : s.settle.status = { s.status with busy := s.settle.status.busy } := by
  unfold State.settle; split
  · split <;> rfl
  · rfl

@[simp] theorem State.settle_state : s.settle.status.state = s.status.state := by rw [State.settle_status]
@[simp] theorem State.settle_fault : s.settle.status.fault = s.status.fault := by rw [State.settle_status]
@[simp] theorem State.settle_faultCode : s.settle.status.faultCode = s.status.faultCode := by rw [State.settle_status]
@[simp] theorem State.settle_calCount : s.settle.status.calCount = s.status.calCount := by rw [State.settle_status]
@[simp] theorem State.settle_errInit : s.settle.status.errInit = s.status.errInit := by rw [State.settle_status]
@[simp] theorem State.settle_errT : s.settle.status.errT = s.status.errT := by rw [State.settle_status]
@[simp] theorem State.settle_errP : s.settle.status.errP = s.status.errP := by rw [State.settle_status]
@[simp] theorem State.settle_errRh : s.settle.status.errRh = s.status.errRh := by rw [State.settle_status]
@[simp] theorem State.settle_vDt : s.settle.status.vDt = s.status.vDt := by rw [State.settle_status]
@[simp] theorem State.settle_vTemp : s.settle.status.vTemp = s.status.vTemp := by rw [State.settle_status]
@[simp] theorem State.settle_vT : s.settle.status.vT = s.status.vT := by rw [State.settle_status]
@[simp] theorem State.settle_vP : s.settle.status.vP = s.status.vP := by rw [State.settle_status]
@[simp] theorem State.settle_vRh : s.settle.status.vRh = s.status.vRh := by rw [State.settle_status]
@[simp] theorem State.settle_regime : s.settle.status.regime = s.status.regime := by rw [State.settle_status]
@[simp] theorem State.settle_vD2 : s.settle.status.vD2 = s.status.vD2 := by rw [State.settle_status]
@[simp] theorem State.settle_vD1 : s.settle.status.vD1 = s.status.vD1 := by rw [State.settle_status]
@[simp] theorem State.settle_vD3 : s.settle.status.vD3 = s.status.vD3 := by rw [State.settle_status]
@[simp] theorem State.advance_state : s.advance.status.state = s.status.state := by simp [State.advance]
@[simp] theorem State.advance_fault : s.advance.status.fault = s.status.fault := by simp [State.advance]
@[simp] theorem State.advance_faultCode : s.advance.status.faultCode = s.status.faultCode := by simp [State.advance]
@[simp] theorem State.advance_calCount : s.advance.status.calCount = s.status.calCount := by simp [State.advance]
@[simp] theorem State.advance_errInit : s.advance.status.errInit = s.status.errInit := by simp [State.advance]
@[simp] theorem State.advance_errT : s.advance.status.errT = s.status.errT := by simp [State.advance]
@[simp] theorem State.advance_errP : s.advance.status.errP = s.status.errP := by simp [State.advance]
@[simp] theorem State.advance_errRh : s.advance.status.errRh = s.status.errRh := by simp [State.advance]
@[simp] theorem State.advance_vDt : s.advance.status.vDt = s.status.vDt := by simp [State.advance]
@[simp] theorem State.advance_vTemp : s.advance.status.vTemp = s.status.vTemp := by simp [State.advance]
@[simp] theorem State.advance_vT : s.advance.status.vT = s.status.vT := by simp [State.advance]
@[simp] theorem State.advance_vP : s.advance.status.vP = s.status.vP := by simp [State.advance]
@[simp] theorem State.advance_vRh : s.advance.status.vRh = s.status.vRh := by simp [State.advance]
@[simp] theorem State.advance_regime : s.advance.status.regime = s.status.regime := by simp [State.advance]
@[simp] theorem State.advance_vD2 : s.advance.status.vD2 = s.status.vD2 := by simp [State.advance]
@[simp] theorem State.advance_vD1 : s.advance.status.vD1 = s.status.vD1 := by simp [State.advance]
@[simp] theorem State.advance_vD3 : s.advance.status.vD3 = s.status.vD3 := by simp [State.advance]

theorem State.settle_busy {o : Op} (h : s.op = some o) :
    s.settle.status.busy = (s.status.busy && decide (s.seq < (eventList o).length)) := by
  unfold State.settle
  rw [h]
  by_cases hl : (eventList o).length ≤ s.seq
  · simp [hl, Nat.not_lt.mpr hl]
  · simp [hl, Nat.lt_of_not_le hl]

theorem State.advance_busy {o : Op} (h : s.op = some o) :
    s.advance.status.busy = (s.status.busy && decide (s.seq + 1 < (eventList o).length)) := by
  unfold State.advance
  rw [State.settle_busy _ (o := o) (by simpa using h)]

/-- An error flag changes no `BUSY`. -/
@[simp] theorem Status.withError_busy (ph : Phase) (st : Status) : (st.withError ph).busy = st.busy := by
  cases ph <;> rfl

/-- After an error STATUS has the phase's flag, and `BUSY` is off where no later phase runs. -/
theorem State.failPhase_status (ph : Phase) {o : Op} (h : s.op = some o) :
    (s.failPhase ph).status = { s.status.withError ph with
      busy := s.status.busy && decide (resumeAt o ph < (eventList o).length) } := by
  unfold State.failPhase
  rw [State.settle_status, State.settle_busy _ (o := o) (by simpa using h)]
  simp [State.jump, h]

end Sys2Proof.Machine
end

