-- ==== Sys2Proof/Laws/Ops.lean ====
section
/-! SUPPORT. One lemma per shared operation that says everything it can do, for the proofs to cite instead of unfolding it:
the answers' decoding, the next event, a command byte, the acceptance of a request, and the turns of a step. -/

namespace Sys2Proof.Machine

/-! ### Answers -/

/-- A 2-byte answer is a word exactly when it is `ok` with two bytes. -/
theorem answer16_eq_some {a : BusAnswer} {v : Word16} :
    answer16 a = some v ↔ ∃ b0 b1, a = .ok [b0, b1] ∧ v = be16 b0 b1 := by
  constructor
  · intro h
    unfold answer16 at h
    split at h
    · exact ⟨_, _, rfl, (Option.some.inj h).symm⟩
    · cases h
    · cases h
  · rintro ⟨b0, b1, rfl, rfl⟩
    rfl

/-- A 2-byte answer is an error exactly when it is not `ok` with two bytes. -/
theorem answer16_eq_none {a : BusAnswer} : answer16 a = none ↔ answerOk 2 a = false := by
  cases a with
  | err => simp [answer16, answerOk]
  | ok l =>
    rcases l with _ | ⟨b0, _ | ⟨b1, _ | ⟨b2, l⟩⟩⟩ <;> simp [answer16, answerOk]

/-- A 3-byte answer is a word exactly when it is `ok` with three bytes. -/
theorem answer24_eq_some {a : BusAnswer} {v : Word24} :
    answer24 a = some v ↔ ∃ b0 b1 b2, a = .ok [b0, b1, b2] ∧ v = be24 b0 b1 b2 := by
  constructor
  · intro h
    unfold answer24 at h
    split at h
    · exact ⟨_, _, _, rfl, (Option.some.inj h).symm⟩
    · cases h
    · cases h
  · rintro ⟨b0, b1, b2, rfl, rfl⟩
    rfl

/-- A 3-byte answer is an error exactly when it is not `ok` with three bytes. -/
theorem answer24_eq_none {a : BusAnswer} : answer24 a = none ↔ answerOk 3 a = false := by
  cases a with
  | err => simp [answer24, answerOk]
  | ok l =>
    rcases l with _ | ⟨b0, _ | ⟨b1, _ | ⟨b2, _ | ⟨b3, l⟩⟩⟩⟩ <;> simp [answer24, answerOk]

/-- An answer is not `ok` with `n` bytes exactly when it is `err` or `ok` with another byte count (20_memory.md R52). -/
theorem answerOk_eq_false {n : Nat} {a : BusAnswer} :
    answerOk n a = false ↔ a = .err ∨ ∃ bytes, a = .ok bytes ∧ bytes.length ≠ n := by
  cases a <;> simp [answerOk]

/-- The answer and what is left of the script, when the script gives one. -/
theorem State.answer_of_script {s : State} {a : BusAnswer} {rest : List BusAnswer} (h : s.script = a :: rest) :
    s.answer = a ∧ s.consume = { s with script := rest } := by
  simp [State.answer, State.consume, h]

/-! ### The next event -/

/-- The next event is an entry of the running operation's list, at `seq`. -/
theorem State.nextEvent_eq_some {s : State} {e : BusStep} :
    s.nextEvent = some e ↔ s.status.busy = true ∧ ∃ o, s.op = some o ∧ (eventList o)[s.seq]? = some e := by
  unfold State.nextEvent
  cases hb : s.status.busy
  · simp
  · cases ho : s.op <;> simp

/-- Every command byte of an event list is one of the eleven of 30_encoding.md R71. -/
theorem eventList_command {o : Op} {n : Nat} {c : Byte} (h : (eventList o)[n]? = some (.command c)) :
    ∃ i, decodeCommand c = .instr i := by
  have hall : ∀ o' : Op, ∀ e ∈ eventList o', ∀ b, e = BusStep.command b → ∃ i, decodeCommand b = .instr i := by
    intro o' e he b hb
    subst hb
    cases o' <;> simp [eventList, initList, acqTList, acqPList, acqRhList] at he
    case init => rcases he with rfl | rfl | rfl | rfl | rfl | rfl | rfl | rfl <;> exact ⟨_, rfl⟩
    case getT => subst he; exact ⟨_, rfl⟩
    case getTp => rcases he with rfl | rfl <;> exact ⟨_, rfl⟩
    case getRh => subst he; exact ⟨_, rfl⟩
    case getTph => rcases he with rfl | rfl | rfl <;> exact ⟨_, rfl⟩
    case getTh => rcases he with rfl | rfl <;> exact ⟨_, rfl⟩
  exact hall o _ (List.mem_of_getElem? h) c rfl

/-! ### Commands and requests -/

/-- A command byte goes out at its place of the event list, or the model stops. -/
theorem emitCommand_eq_next {d : Device} {c : Byte} {ph : Phase} {s t : State} :
    emitCommand d c ph s = .next t ↔ s.nextEvent = some (.command c) ∧ t = s.issueCommand d c ph := by
  unfold emitCommand
  by_cases h : s.nextEvent = some (.command c)
  · simp [h, eq_comm]
  · simp [h]

/-- A command byte sent either goes on with the list or ends its phase. -/
theorem State.issueCommand_cases (d : Device) (c : Byte) (ph : Phase) (s : State) :
    (answerOk 0 s.answer = true ∧ s.issueCommand d c ph = (s.exchange (.busWrite (s.cfg.addr d) c)).advance) ∨
    (answerOk 0 s.answer = false ∧
      s.issueCommand d c ph = (s.exchange (.busWrite (s.cfg.addr d) c)).failPhase ph) := by
  unfold State.issueCommand
  cases h : answerOk 0 s.answer <;> simp

/-- The checks of a measurement request, in their order (60_exceptions.md R209). -/
theorem admitMeasurement_cases (o : Op) (arg : Option Rat) (s : State) :
    (s.status.busy = true ∧ admitMeasurement o arg s = s.refuse .overlap) ∨
    (s.status.busy = false ∧ s.status.state ≠ .ready ∧ admitMeasurement o arg s = s.refuse .notReady) ∨
    (s.status.busy = false ∧ s.status.state = .ready ∧ admitMeasurement o arg s = s.accept o arg) := by
  unfold admitMeasurement
  cases hb : s.status.busy
  · by_cases hr : s.status.state = .ready <;> simp [hr]
  · simp

/-- INIT is refused only while an operation runs (40_init.md R100). -/
theorem execInit_cases (s : State) :
    (s.status.busy = true ∧ execInit s = .next (s.refuse .overlap)) ∨
    (s.status.busy = false ∧ execInit s = .next (s.accept .init none).startInit) := by
  unfold execInit
  cases hb : s.status.busy <;> simp

/-- A host read replies with a listed register, or records ILLEGAL and replies `absent`. -/
theorem State.hostRead_cases (index : Nat) (s : State) :
    (∃ v, readRegister s index = some v ∧ s.hostRead index = s.reply (.value index v)) ∨
    (readRegister s index = none ∧ s.hostRead index = (s.raiseFault .illegal).reply (.value index .absent)) := by
  unfold State.hostRead
  cases h : readRegister s index <;> simp

/-! ### Turns -/

/-- The controller's turn: an idle block stays as it is, a running operation makes its next event. -/
theorem controllerTurn_cases (s : State) :
    (s.status.busy = false ∧ controllerTurn s = .next s) ∨
    (s.status.busy = true ∧ controllerTurn s = runOperation s) := by
  unfold controllerTurn
  cases s.status.busy <;> simp

/-- A running operation makes the event at `seq`, or completes past the last one. -/
theorem runOperation_of_op {s : State} {o : Op} (h : s.op = some o) :
    runOperation s = match (eventList o)[s.seq]? with
      | some e => runEvent e s
      | none => .next s.complete := by
  cases he : (eventList o)[s.seq]? <;> simp [runOperation, h, he]

/-- Everything a step can be: one turn of the schedule, or the controller's where no turn is left. -/
theorem step_cases (s : State) :
    (s.schedule = [] ∧ step s = controllerTurn s) ∨
    (∃ r rest, s.schedule = .request r :: rest ∧ step s = presentRequest r { s with schedule := rest }) ∨
    (∃ k rest, s.schedule = .read k :: rest ∧ step s = .next (State.hostRead k { s with schedule := rest })) ∨
    (∃ rest, s.schedule = .controller :: rest ∧ step s = controllerTurn { s with schedule := rest }) ∨
    (∃ rest, s.schedule = .await :: rest ∧ s.status.busy = true ∧ step s = runOperation s) ∨
    (∃ rest, s.schedule = .await :: rest ∧ s.status.busy = false ∧ step s = .next { s with schedule := rest }) ∨
    (∃ rest, s.schedule = .blockReset :: rest ∧ step s = .next (State.blockReset { s with schedule := rest })) := by
  unfold step takeTurn
  rcases hs : s.schedule with _ | ⟨_ | _ | _ | _ | _, rest⟩
  · simp
  · simp
  · simp
  · simp
  · cases hb : s.status.busy <;> simp
  · simp

/-- With no turn left, a step is the running operation's next event. -/
theorem step_of_nextEvent {s : State} {e : BusStep} (h : s.nextEvent = some e) (hs : s.schedule = []) :
    step s = runEvent e s := by
  obtain ⟨hb, o, ho, he⟩ := State.nextEvent_eq_some.mp h
  simp [step, takeTurn, hs, controllerTurn, hb, runOperation_of_op ho, he]

/-- A presented request: OVERLAP, the instruction it decodes to, or ILLEGAL (60_exceptions.md R209). -/
theorem presentRequest_cases (r : Request) (s : State) :
    (s.status.busy = true ∧ presentRequest r s = .next (s.refuse .overlap)) ∨
    (s.status.busy = false ∧ ∃ i, decodeRequest r = .instr i ∧ presentRequest r s = exec i s) ∨
    (s.status.busy = false ∧ ∃ e, decodeRequest r = .illegal e ∧ presentRequest r s = .next (s.refuse .illegal)) := by
  unfold presentRequest
  cases hb : s.status.busy
  · cases hd : decodeRequest r <;> simp
  · simp

end Sys2Proof.Machine
end

