-- ==== Sys2Proof/Laws/PerInstr.lean ====
section
/-! SUPPORT. A law of every instruction as syntax: its encoded byte agrees with its row of spec/opcode_table.json on every bit
the row fixes. -/

namespace Sys2Proof.Laws.EncodingMatchesTable

open Sys2Proof

/-- The "mask" and "match" of an instruction's row of spec/opcode_table.json. -/
def tableRow : Instr → Byte × Byte
  | .init => (0xFF#8, 0x00#8)
  | .getT => (0xFF#8, 0x01#8)
  | .getTp => (0xFF#8, 0x02#8)
  | .getRh _ => (0xF7#8, 0x03#8)
  | .getTph => (0xFF#8, 0x04#8)
  | .getTh => (0xFF#8, 0x05#8)
  | .busResetTp => (0xFF#8, 0x1E#8)
  | .busPromReadC0 => (0xFF#8, 0xA2#8)
  | .busPromReadC1 => (0xFF#8, 0xA4#8)
  | .busPromReadC2 => (0xFF#8, 0xA6#8)
  | .busPromReadC3 => (0xFF#8, 0xA8#8)
  | .busPromReadC4 => (0xFF#8, 0xAA#8)
  | .busPromReadC5 => (0xFF#8, 0xAC#8)
  | .busConvertT => (0xFF#8, 0x5A#8)
  | .busConvertP => (0xFF#8, 0x4A#8)
  | .busResetRh => (0xFF#8, 0xFE#8)
  | .busMeasureRh => (0xFF#8, 0xE5#8)

/-- The encoded byte has the row's value on the bits the row fixes. -/
def Statement (i : Instr) : Prop := (encode i).byte &&& (tableRow i).1 = (tableRow i).2

theorem init : Statement .init := by unfold Statement; decide
theorem getT : Statement .getT := by unfold Statement; decide
theorem getTp : Statement .getTp := by unfold Statement; decide
theorem getRh (arg : Option Rat) : Statement (.getRh arg) := by
  cases arg
  · show (0x03#8 &&& 0xF7#8) = 0x03#8
    decide
  · show (0x0B#8 &&& 0xF7#8) = 0x03#8
    decide
theorem getTph : Statement .getTph := by unfold Statement; decide
theorem getTh : Statement .getTh := by unfold Statement; decide
theorem busResetTp : Statement .busResetTp := by unfold Statement; decide
theorem busPromReadC0 : Statement .busPromReadC0 := by unfold Statement; decide
theorem busPromReadC1 : Statement .busPromReadC1 := by unfold Statement; decide
theorem busPromReadC2 : Statement .busPromReadC2 := by unfold Statement; decide
theorem busPromReadC3 : Statement .busPromReadC3 := by unfold Statement; decide
theorem busPromReadC4 : Statement .busPromReadC4 := by unfold Statement; decide
theorem busPromReadC5 : Statement .busPromReadC5 := by unfold Statement; decide
theorem busConvertT : Statement .busConvertT := by unfold Statement; decide
theorem busConvertP : Statement .busConvertP := by unfold Statement; decide
theorem busResetRh : Statement .busResetRh := by unfold Statement; decide
theorem busMeasureRh : Statement .busMeasureRh := by unfold Statement; decide

end Sys2Proof.Laws.EncodingMatchesTable
end

