-- ==== Sys2Proof/Tests/Slice0.lean ====
section
/-! SUPPORT. The model's own tests: ill-formed terms, every constructor's word from 30_encoding.md, single steps and pure
results with values of 95_test_vectors.md, and a witness of the hypotheses of each statement. -/

namespace Sys2Proof.Tests

open Sys2Proof Sys2Proof.Machine Sys2Proof.Safety

/-! ### Helpers -/

/-- The calibration of 40_init.md R107. -/
def cal0 : CalFile :=
  { c0 := some 40000#16, c1 := some 36000#16, c2 := some 24000#16, c3 := some 22000#16, c4 := some 32768#16,
    c5 := some 25000#16 }

/-- READY and idle after the INIT of 40_init.md R107, the bus agent about to give these answers. -/
def ready (answers : List BusAnswer) : State :=
  { State.reset with
    status := { Status.reset with state := .ready, calCount := 6 }
    cal := cal0, seq := 16, hTp := true, hRh := true, op := some .init, script := answers }

/-- A measurement just begun or under way at its event `n`, nothing obtained yet. -/
def under (o : Op) (n : Nat) (answers : List BusAnswer) : State :=
  { ready answers with status := { (ready []).status with busy := true }, op := some o, seq := n }

/-- INIT under way at its event `n`, `k` words read. -/
def initAt (n k : Nat) (answers : List BusAnswer) : State :=
  { State.reset with
    status := { Status.reset with busy := true, calCount := k }
    cal := if k = 6 then cal0 else CalFile.empty
    seq := n, hTp := decide (1 ≤ n), hRh := decide (15 ≤ n), op := some .init, script := answers }

/-- The STATUS word after a step's outcome, where it is a next state. -/
def statusAfter (r : Result) : Option (BitVec 32) :=
  match r with
  | .next s => some (statusWord s.status)
  | .fault _ => none
  | .refused _ => none

/-- A view of the next state of an outcome. -/
def after {α : Type} (view : State → α) (r : Result) : Option α :=
  match r with
  | .next s => some (view s)
  | .fault _ => none
  | .refused _ => none

/-! ### Ill-formed terms (30_encoding.md R77, 20_memory.md R58, 00_scope.md R5) -/

theorem test_wf_reserved_bits : (Request.mk 0x10#8 none).wellFormed = false := by decide
theorem test_wf_operand_missing : (Request.mk 0x0B#8 none).wellFormed = false := by decide
theorem test_wf_operand_not_allowed : (Request.mk 0x03#8 (some 1)).wellFormed = false := by decide
theorem test_wf_request : (Request.mk 0x0B#8 (some 30)).wellFormed = true := by decide
theorem test_wf_reserved_index : indexListed 0x07 = false ∧ indexListed 0x20 = false ∧ indexListed 0x1D = true := by decide
theorem test_wf_wait_too_short : ({ Config.default with convWaitMs := 29 } : Config).wellFormed = false := by decide +kernel
theorem test_wf_default_config : Config.default.wellFormed = true := by decide +kernel

/-! ### Every constructor's word, from 30_encoding.md R71 and R75 -/

theorem test_word_init : decode (.request { word := 0b00000000#8, operand := none }) = .instr .init := by decide
theorem test_word_get_t : decode (.request { word := 0b00000001#8, operand := none }) = .instr .getT := by decide
theorem test_word_get_tp : decode (.request { word := 0b00000010#8, operand := none }) = .instr .getTp := by decide
theorem test_word_get_rh : decode (.request { word := 0b00000011#8, operand := none }) = .instr (.getRh none) := by decide
theorem test_word_get_rh_operand :
    decode (.request { word := 0b00001011#8, operand := some (-25 / 2) }) = .instr (.getRh (some (-25 / 2))) := rfl
theorem test_word_get_tph : decode (.request { word := 0b00000100#8, operand := none }) = .instr .getTph := by decide
theorem test_word_get_th : decode (.request { word := 0b00000101#8, operand := none }) = .instr .getTh := by decide
theorem test_word_reset_tp : decode (.command 0b00011110#8) = .instr .busResetTp := by decide
theorem test_word_prom_c0 : decode (.command 0b10100010#8) = .instr .busPromReadC0 := by decide
theorem test_word_prom_c1 : decode (.command 0b10100100#8) = .instr .busPromReadC1 := by decide
theorem test_word_prom_c2 : decode (.command 0b10100110#8) = .instr .busPromReadC2 := by decide
theorem test_word_prom_c3 : decode (.command 0b10101000#8) = .instr .busPromReadC3 := by decide
theorem test_word_prom_c4 : decode (.command 0b10101010#8) = .instr .busPromReadC4 := by decide
theorem test_word_prom_c5 : decode (.command 0b10101100#8) = .instr .busPromReadC5 := by decide
theorem test_word_convert_t : decode (.command 0b01011010#8) = .instr .busConvertT := by decide
theorem test_word_convert_p : decode (.command 0b01001010#8) = .instr .busConvertP := by decide
theorem test_word_reset_rh : decode (.command 0b11111110#8) = .instr .busResetRh := by decide
theorem test_word_measure_rh : decode (.command 0b11100101#8) = .instr .busMeasureRh := by decide
/-- L2-E3 to L2-E6. -/
theorem test_illegal_words :
    decodeRequest { word := 0x06#8, operand := none } = .illegal .reservedOpsel
    ∧ decodeRequest { word := 0x0F#8, operand := some 1 } = .illegal .reservedOpsel
    ∧ decodeRequest { word := 0x08#8, operand := some 1 } = .illegal .argvNotAllowed
    ∧ decodeRequest { word := 0xFF#8, operand := some 1 } = .illegal .reservedBits
    ∧ decodeRequest { word := 0x0B#8, operand := none } = .illegal .operandMissing
    ∧ decodeCommand 0xA0#8 = .illegal .notACommand ∧ decodeCommand 0xAE#8 = .illegal .notACommand := by decide

/-! ### Pure results of 95_test_vectors.md -/

/-- L2-T1, L2-T5, L2-T6. -/
theorem test_first_order :
    firstOrder 32768#16 25000#16 8500000#24 =
      { t := 3056565 / 131072, temp := 76414125 / 32768, dt := 111392 }
    ∧ firstOrder 0#16 65535#16 16777215#24 =
      { t := 44650880041 / 33554432, temp := 1116272001025 / 8388608, dt := 16777215 }
    ∧ firstOrder 65535#16 65535#16 0#24 =
      { t := -169172009 / 131072, temp := -4229300225 / 32768, dt := -16776960 } := by decide +kernel

/-- L2-TP1, HIGH. -/
theorem test_compensate_high :
    compensate 40000#16 36000#16 24000#16 22000#16 6500000#24 111392 (76414125 / 32768) =
      { p := 562438461155 / 536870912, off := 4756883000, sens := 2642326000, t2 := 60586805 / 268435456
        off2 := 0, sens2 := 0, tempc := 625923925195 / 268435456, regime := .high } := by decide +kernel

/-- L2-TP2, LOW. -/
theorem test_compensate_low :
    compensate 40000#16 36000#16 24000#16 22000#16 6500000#24 (-388608) (1724125 / 2048) =
      { p := 582606220013706206095 / 576460752303423488, off := 4585008000, sens := 2548576000
        t2 := 1728243 / 32768, off2 := 343173251953125 / 67108864, sens2 := 163147939453125 / 67108864
        tempc := 25857757 / 32768, regime := .low } := by decide +kernel

/-- L2-TP3, VERYLOW. -/
theorem test_compensate_very_low :
    compensate 40000#16 36000#16 24000#16 22000#16 6500000#24 (-3388608) (-132691375 / 16384) =
      { p := 21881193578639435404455 / 36893488147419103232, off := 3553758000, sens := 1986076000
        t2 := 8410154427 / 2097152, off2 := 4849375223997078125 / 4294967296
        sens2 := 2477133879326578125 / 4294967296, tempc := -25394650427 / 2097152, regime := .veryLow } := by
  decide +kernel

/-- L2-TP4, L2-TP5, L2-TP6: the boundaries 2000 and -1500 and the value just below 2000. -/
theorem test_regime_boundaries :
    (secondOrder 0 2000).regime = .high ∧ (secondOrder (-8388608) (-1500)).regime = .low
    ∧ (secondOrder (-1) (16777215999 / 8388608)).regime = .low := by decide +kernel

/-- L2-TP9: a pressure below zero is not clamped. -/
theorem test_pressure_negative :
    (compensate 0#16 65535#16 0#16 65535#16 0#24 0 2000).p = -13107 / 5 := by decide +kernel

/-- L2-H1, L2-H3, L2-H5, L2-H6. -/
theorem test_humidity :
    humidity 0#16 none = -6 ∧ humidity 0xFFFF#16 none = 7798659 / 65536
    ∧ humidity 0x8000#16 (some 30) = 583 / 10 ∧ humidity 0x8000#16 (some (-25 / 2)) = 1013 / 20 := by decide +kernel

/-! ### Single steps, with the STATUS words of 95_test_vectors.md -/

/-- L2-F1: a measurement after reset is refused with NOT_READY. -/
theorem test_get_t_not_ready : statusAfter (exec .getT State.reset) = some 0x00001008#32 := by decide
/-- L2-F7: a request in mid-operation is refused with OVERLAP. -/
theorem test_get_t_overlap : statusAfter (exec .getT (under .getT 0 [])) = some 0x0000306D#32 := by decide
/-- L2-F11: GET_RH with an operand while UNINIT. -/
theorem test_get_rh_not_ready : statusAfter (exec (.getRh (some 30)) State.reset) = some 0x00001008#32 := by decide
/-- 10_state.md R32: acceptance sets `BUSY` and clears the rest (STATUS 0x61 with bit 2). -/
theorem test_get_tp_accepted : statusAfter (exec .getTp (ready [])) = some 0x00000065#32 := by decide
theorem test_get_tph_accepted : statusAfter (exec .getTph (ready [])) = some 0x00000065#32 := by decide
theorem test_get_th_accepted : statusAfter (exec .getTh (ready [])) = some 0x00000065#32 := by decide
theorem test_get_rh_accepted :
    after (fun s => (s.op, s.argT)) (exec (.getRh (some 7)) (ready [])) = some (some .getRh, some 7) := by decide
/-- 40_init.md R101: INIT discards the previous calibration at its start. -/
theorem test_init_discards : statusAfter (exec .init (ready [])) = some 0x00000004#32 := by decide
/-- L2-I3: the TP reset write answers `err`. -/
theorem test_reset_tp_err : statusAfter (exec .busResetTp (initAt 1 0 [.err])) = some 0x00000102#32 := by decide
/-- L2-I8: the RH reset write answers `err`; and `ok` makes the block READY. -/
theorem test_reset_rh_err : statusAfter (exec .busResetRh (initAt 15 6 [.err])) = some 0x00000162#32 := by decide
theorem test_reset_rh_ok : statusAfter (exec .busResetRh (initAt 15 6 [.ok []])) = some 0x00000061#32 := by decide
/-- 40_init.md R107: the PROM read commands go to 0x76. -/
theorem test_prom_c0_event :
    after State.history (exec .busPromReadC0 (initAt 2 0 [.ok []])) =
      some [{ event := .busWrite 0x76#7 0xA2#8, answer := .ok [] }] := by decide
theorem test_prom_c1_event :
    after State.history (exec .busPromReadC1 (initAt 4 1 [.ok []])) =
      some [{ event := .busWrite 0x76#7 0xA4#8, answer := .ok [] }] := by decide
theorem test_prom_c2_event :
    after State.history (exec .busPromReadC2 (initAt 6 2 [.ok []])) =
      some [{ event := .busWrite 0x76#7 0xA6#8, answer := .ok [] }] := by decide
theorem test_prom_c3_event :
    after State.history (exec .busPromReadC3 (initAt 8 3 [.ok []])) =
      some [{ event := .busWrite 0x76#7 0xA8#8, answer := .ok [] }] := by decide
theorem test_prom_c4_event :
    after State.history (exec .busPromReadC4 (initAt 10 4 [.ok []])) =
      some [{ event := .busWrite 0x76#7 0xAA#8, answer := .ok [] }] := by decide
theorem test_prom_c5_event :
    after State.history (exec .busPromReadC5 (initAt 12 5 [.ok []])) =
      some [{ event := .busWrite 0x76#7 0xAC#8, answer := .ok [] }] := by decide
/-- L2-I10: the PROM answer [0x01, 0x00] gives 256. -/
theorem test_read_cal_byte_order :
    (State.readCal 0 (initAt 3 0 [.ok [0x01#8, 0x00#8]])).cal.c0 = some 256#16 := by decide
/-- L2-T10: the 0x5A write answers `err`. -/
theorem test_convert_t_err : statusAfter (exec .busConvertT (under .getT 0 [.err])) = some 0x00000261#32 := by decide
/-- L2-C6, first half: in GET_TPH the failed 0x5A is followed by the humidity events. -/
theorem test_convert_t_err_tph :
    after State.nextEvent (exec .busConvertT (under .getTph 0 [.err])) = some (some (.command 0xE5#8)) := by decide
/-- 44_composite.md R186: a failed 0x4A in GET_TPH is followed by the humidity events. -/
theorem test_convert_p_err_tph :
    after State.nextEvent (exec .busConvertP (under .getTph 3 [.err])) = some (some (.command 0xE5#8)) := by decide
/-- L2-H9: the 0xE5 write answers `err`; the write goes to 0x40. -/
theorem test_measure_rh_err : statusAfter (exec .busMeasureRh (under .getRh 0 [.err])) = some 0x00000861#32 := by decide
theorem test_measure_rh_event :
    after State.history (exec .busMeasureRh (under .getRh 0 [.ok []])) =
      some [{ event := .busWrite 0x40#7 0xE5#8, answer := .ok [] }] := by decide
/-- L2-T1: the read of `D2` completes GET_T with STATUS 0x00870061. -/
theorem test_read_d2 :
    after (fun s => (statusWord s.status, s.res.t)) (readD2 (under .getT 2 [.ok [0x81#8, 0xB3#8, 0x20#8]])) =
      some (0x00870061#32, some (3056565 / 131072)) := by decide +kernel
/-- L2-T12: a `D2` answer of 2 bytes is an error. -/
theorem test_read_d2_short :
    statusAfter (readD2 (under .getT 2 [.ok [0x81#8, 0xB3#8]])) = some 0x00000261#32 := by decide
/-- L2-H5: the read of `D3` completes GET_RH with STATUS 0x02100061. -/
theorem test_read_d3 :
    (fun s => (statusWord s.status, s.res.rh))
        (State.readD3 { under .getRh 1 [.ok [0x80#8, 0x00#8]] with argT := some 30 }) =
      (0x02100061#32, some (583 / 10)) := by decide +kernel
/-- L2-F10: a host read of a reserved index. -/
theorem test_read_reserved_index :
    statusWord (State.hostRead 0x07 (ready [])).status = 0x00002069#32
    ∧ (State.hostRead 0x07 (ready [])).replies = [.value 0x07 .absent] := by decide
/-- L2-F3, L2-F9: an illegal word, and the first code is kept. -/
theorem test_illegal_word_step :
    statusAfter (presentRequest { word := 0x06#8, operand := none } (ready [])) = some 0x00002069#32 := by decide
theorem test_first_code_kept :
    statusAfter (exec .getT (State.refuse .illegal State.reset)) = some 0x00002008#32 := by decide
/-- A command byte placed by `withFetchWord` after reset runs at its own place (log 1). -/
theorem test_fetch_word_command :
    after (fun s => (s.seq, s.history))
        (step (State.withFetchWord { State.reset with script := [.ok []] } 8 0xFE)) =
      some (16, [{ event := .busWrite 0x40#7 0xFE#8, answer := .ok [] }]) := by decide
/-- 30_encoding.md R80: `get_rh -12.5`, and a comment; log 17: a line with no request. -/
theorem test_assemble :
    assemble ["get_rh -12.5 ; x".toList, "; x".toList, "rd 18".toList] =
      some [.request { word := 0x0B#8, operand := some (-25 / 2) }, .await, .read 0x12] := by decide +kernel

/-! ### Witnesses: a concrete state and operands that meet the hypotheses of each statement that has some -/

theorem test_witness_block_reset : (State.mk Status.reset cal0 RawRegs.empty ResultRegs.empty 3 true true none none
    Config.default [.blockReset] [] 0 [] []).schedule = .blockReset :: [] := by decide
theorem test_witness_idle_block : (ready []).schedule = [] ∧ (ready []).status.busy = false := by decide
theorem test_witness_presented_request :
    (ready []).status.busy = false
    ∧ { ready [] with schedule := [.request { word := 0x0B#8, operand := some 30 }] }.schedule =
        .request { word := 0x0B#8, operand := some 30 } :: []
    ∧ decodeRequest { word := 0x0B#8, operand := some 30 } = .instr (.getRh (some 30))
    ∧ (Instr.getRh (some 30)).wellFormed = true := ⟨rfl, rfl, rfl, rfl⟩
theorem test_witness_emitted_command :
    (under .getT 0 []).nextEvent = some (.command 0x5A#8) ∧ decodeCommand 0x5A#8 = .instr .busConvertT
    ∧ Instr.busConvertT.wellFormed = true ∧ (under .getT 0 []).schedule = []
    ∧ { under .getT 0 [] with schedule := [.controller] }.schedule = .controller :: []
    ∧ { under .getT 0 [] with schedule := [.await] }.schedule = .await :: [] := by decide
/-- A request presented while an operation runs. -/
theorem test_witness_presented_while_busy :
    { under .getT 0 [] with schedule := [.request { word := 0x01#8, operand := none }] }.schedule =
        .request { word := 0x01#8, operand := none } :: []
    ∧ { under .getT 0 [] with schedule := [.request { word := 0x01#8, operand := none }] }.status.busy = true := by decide
theorem test_witness_fetched_word :
    State.reset.status.busy = false ∧ decodeTableWord 8 0x5A = some .busConvertT
    ∧ decodeTableWord 8 0x05 = some .getTh ∧ decodeTableWord 8 0x0B = some (.getRh (some 0)) := by decide
theorem test_witness_decoded_wire :
    decodeRequest { word := 0x03#8, operand := some 5 } = .instr (.getRh none)
    ∧ decodeRequest { word := 0x0B#8, operand := some 5 } = .instr (.getRh (some 5))
    ∧ decodeCommand 0xFE#8 = .instr .busResetRh := ⟨rfl, rfl, rfl⟩
theorem test_witness_well_formed : Instr.init.wellFormed = true ∧ (Instr.getRh (some 1)).wellFormed = true := by decide
theorem test_witness_legal_words :
    decodeRequest { word := 0x05#8, operand := none } = .instr .getTh
    ∧ decodeRequest { word := 0x0B#8, operand := some 1 } = .instr (.getRh (some 1))
    ∧ decodeRequest { word := 0x06#8, operand := none } = .illegal .reservedOpsel := ⟨rfl, rfl, rfl⟩
theorem test_witness_commands_row : (Instr.busResetTp, 0x1E#8, Device.tp) ∈ Claims.commands
    ∧ (Instr.busMeasureRh, 0xE5#8, Device.rh) ∈ Claims.commands := by decide
theorem test_witness_prom_bounds : 0 < 6 ∧ 5 < 6 ∧ promCommand 0 = 0xA2#8 ∧ promCommand 5 = 0xAC#8 := by decide
theorem test_witness_accepts :
    Claims.measurement (.getRh (some 30)) = some (.getRh, some 30) ∧ (ready []).status.busy = false
    ∧ (ready []).status.state = .ready := ⟨rfl, rfl, rfl⟩
theorem test_witness_not_ready :
    Claims.measurement .getT = some (.getT, none) ∧ State.reset.status.busy = false
    ∧ State.reset.status.state ≠ .ready := by decide
theorem test_witness_busy :
    (under .getT 0 []).status.busy = true ∧ (Claims.measurement .getTph).isSome = true := by decide
theorem test_witness_illegal :
    (ready []).status.busy = false
    ∧ decodeRequest { word := 0x09#8, operand := some 1 } = .illegal .argvNotAllowed := by decide
theorem test_witness_sticky_fault :
    (∃ t, step (State.refuse .illegal (under .getT 0 [.ok []])) = .next t)
    ∧ (State.refuse .illegal (under .getT 0 [.ok []])).status.fault = true
    ∧ (State.refuse .illegal (under .getT 0 [.ok []])).schedule.head? ≠ some .blockReset :=
  ⟨⟨_, rfl⟩, by decide, by decide⟩
theorem test_witness_init_loads :
    State.reset.status.busy = false ∧ State.reset.schedule = []
    ∧ { State.reset with script := [.ok [], .ok [], .ok [], .ok [0x9C#8, 0x40#8], .ok [], .ok [0x8C#8, 0xA0#8], .ok [],
          .ok [0x5D#8, 0xC0#8], .ok [], .ok [0x55#8, 0xF0#8], .ok [], .ok [0x80#8, 0x00#8], .ok [],
          .ok [0x61#8, 0xA8#8], .ok [], .ok []] }.script =
        [.ok [], .ok [], .ok [], .ok [0x9C#8, 0x40#8], .ok [], .ok [0x8C#8, 0xA0#8], .ok [],
          .ok [0x5D#8, 0xC0#8], .ok [], .ok [0x55#8, 0xF0#8], .ok [], .ok [0x80#8, 0x00#8], .ok [],
          .ok [0x61#8, 0xA8#8], .ok [], .ok []] := ⟨rfl, rfl, rfl⟩
/-- The first and the last event of INIT, and a PROM read answered `err` and with 3 bytes (L2-I9). -/
theorem test_witness_init_fails :
    (∀ q ∈ [(initAt 0 0 [.err], BusStep.openDevice .tp), (initAt 3 0 [.err], .readCal 0),
        (initAt 15 6 [.err], .command 0xFE#8)],
      q.1.status.busy = true ∧ q.1.op = some .init ∧ initList[q.1.seq]? = some q.2 ∧ q.1.schedule = []
      ∧ q.1.answer = .err)
    ∧ (initAt 13 5 [.ok [1#8, 2#8, 3#8]]).status.busy = true ∧ (initAt 13 5 [.ok [1#8, 2#8, 3#8]]).op = some .init
    ∧ initList[(initAt 13 5 [.ok [1#8, 2#8, 3#8]]).seq]? = some (.readCal 5)
    ∧ (initAt 13 5 [.ok [1#8, 2#8, 3#8]]).schedule = []
    ∧ Claims.badRead 2 (initAt 13 5 [.ok [1#8, 2#8, 3#8]]).answer :=
  ⟨by decide, rfl, rfl, rfl, rfl, .inr ⟨_, rfl, by decide⟩⟩
theorem test_witness_get_t :
    (ready []).status.busy = false ∧ (ready []).status.state = .ready ∧ (ready []).schedule = []
    ∧ (ready []).cal.c4 = some 32768#16 ∧ (ready []).cal.c5 = some 25000#16
    ∧ (ready [.ok [], .ok [0x81#8, 0xB3#8, 0x20#8]]).script = .ok [] :: .ok [0x81#8, 0xB3#8, 0x20#8] :: []
    ∧ (111392 : Int) = ((be24 0x81#8 0xB3#8 0x20#8).toNat : Int) - ((32768#16).toNat : Int) * 2 ^ 8
    ∧ (76414125 / 32768 : Rat) = 2000 + ((111392 : Int) : Rat) * ((25000#16).toNat : Rat) / 2 ^ 23 :=
  ⟨rfl, rfl, rfl, rfl, rfl, rfl, by decide, by decide +kernel⟩
/-- The hypotheses on the second-order terms, at L2-TP1 (HIGH), L2-TP2 (LOW), L2-TP3 (VERYLOW), and at the values 2000 and
-1500 where the clauses meet. -/
theorem test_witness_second_order_terms :
    Claims.SecondOrderTerms 111392 (76414125 / 32768) (60586805 / 268435456) 0 0 .high
    ∧ Claims.SecondOrderTerms (-388608) (1724125 / 2048) (1728243 / 32768) (343173251953125 / 67108864)
        (163147939453125 / 67108864) .low
    ∧ Claims.SecondOrderTerms (-3388608) (-132691375 / 16384) (8410154427 / 2097152)
        (4849375223997078125 / 4294967296) (2477133879326578125 / 4294967296) .veryLow
    ∧ Claims.SecondOrderTerms 0 2000 0 0 0 .high
    ∧ Claims.SecondOrderTerms (-8388608) (-1500) 24576 46703125 22203125 .low := by
  refine ⟨?_, ?_, ?_, ?_, ?_⟩ <;> unfold Claims.SecondOrderTerms <;> norm_num
/-- The rest of the hypotheses of the pressure statements, at L2-TP1. -/
theorem test_witness_get_tp :
    (ready []).status.busy = false ∧ (ready []).status.state = .ready ∧ (ready []).schedule = []
    ∧ (ready []).cal = cal0
    ∧ (ready [.ok [], .ok [0x81#8, 0xB3#8, 0x20#8], .ok [], .ok [0x63#8, 0x2E#8, 0xA0#8], .ok [],
        .ok [0x80#8, 0x00#8]]).script =
      [.ok [], .ok [0x81#8, 0xB3#8, 0x20#8], .ok [], .ok [0x63#8, 0x2E#8, 0xA0#8], .ok [], .ok [0x80#8, 0x00#8]]
    ∧ (4756883000 : Rat) = ((36000#16).toNat : Rat) * 2 ^ 17 + ((22000#16).toNat : Rat) * ((111392 : Int) : Rat) / 2 ^ 6
    ∧ (2642326000 : Rat) = ((40000#16).toNat : Rat) * 2 ^ 16 + ((24000#16).toNat : Rat) * ((111392 : Int) : Rat) / 2 ^ 7 :=
  ⟨rfl, rfl, rfl, rfl, rfl, by decide +kernel, by decide +kernel⟩
theorem test_witness_get_tp_pressure_error :
    Claims.badRead 3 .err ∧ Claims.badRead 3 (.ok []) ∧ Claims.badRead 3 (.ok [1#8, 2#8])
    ∧ (ready []).status.busy = false ∧ (ready []).status.state = .ready ∧ (ready []).schedule = []
    ∧ (ready []).cal.c4 = some 32768#16 ∧ (ready []).cal.c5 = some 25000#16
    ∧ (ready [.ok [], .ok [0x81#8, 0xB3#8, 0x20#8], .ok [], .err]).script =
      .ok [] :: .ok [0x81#8, 0xB3#8, 0x20#8] :: .ok [] :: .err :: [] :=
  ⟨.inl rfl, .inr ⟨_, rfl, by decide⟩, .inr ⟨_, rfl, by decide⟩, rfl, rfl, rfl, rfl, rfl, rfl⟩
/-- Each sample read in each operation that holds it, and the wrong byte counts. -/
theorem test_witness_failed_reads :
    (∀ o ∈ [Op.getT, Op.getTp, Op.getTph, Op.getTh],
      (under o 2 []).nextEvent = some .readD2 ∧ (under o 2 []).schedule = [])
    ∧ (∀ o ∈ [Op.getTp, Op.getTph], (under o 5 []).nextEvent = some .readD1 ∧ (under o 5 []).schedule = [])
    ∧ (∀ q ∈ [(Op.getRh, 1), (Op.getTph, 7), (Op.getTh, 4)],
      (under q.1 q.2 []).nextEvent = some .readD3 ∧ (under q.1 q.2 []).schedule = [])
    ∧ Claims.badRead 3 (under .getT 2 [.ok [1#8, 2#8]]).answer
    ∧ Claims.badRead 3 (under .getTp 5 [.err]).answer
    ∧ Claims.badRead 2 (under .getRh 1 [.ok [1#8, 2#8, 3#8]]).answer :=
  ⟨by decide, by decide, by decide, .inr ⟨_, rfl, by decide⟩, .inl rfl, .inr ⟨_, rfl, by decide⟩⟩
theorem test_witness_get_rh :
    (ready []).status.busy = false ∧ (ready []).status.state = .ready ∧ (ready []).schedule = []
    ∧ (ready [.ok [], .ok [0x80#8, 0x00#8]]).script = .ok [] :: .ok [0x80#8, 0x00#8] :: []
    ∧ (113 / 2 : Rat) = -6 + 125 * ((be16 0x80#8 0x00#8).toNat : Rat) / 2 ^ 16
    ∧ (583 / 10 : Rat) = 113 / 2 + 18 / 100 * (30 - 20) :=
  ⟨rfl, rfl, rfl, rfl, by decide +kernel, by decide +kernel⟩
theorem test_witness_get_th :
    (ready [.ok [], .ok [0x81#8, 0xB3#8, 0x20#8], .ok [], .ok [0x80#8, 0x00#8]]).script =
      .ok [] :: .ok [0x81#8, 0xB3#8, 0x20#8] :: .ok [] :: .ok [0x80#8, 0x00#8] :: []
    ∧ (ready []).cal.c4 = some 32768#16 ∧ (ready []).cal.c5 = some 25000#16 := ⟨rfl, rfl, rfl⟩
theorem test_witness_composite_without_temperature :
    (ready []).status.busy = false ∧ (ready []).status.state = .ready ∧ (ready []).schedule = []
    ∧ (ready [.err, .ok [], .ok [0x80#8, 0x00#8]]).script = .err :: .ok [] :: .ok [0x80#8, 0x00#8] :: [] :=
  ⟨rfl, rfl, rfl, rfl⟩
/-- Every command at its place, with the answers `ok` and `err`. -/
theorem test_witness_commands :
    ∀ q ∈ [(initAt 1 0, 0x1E#8), (initAt 2 0, 0xA2#8), (initAt 4 1, 0xA4#8), (initAt 6 2, 0xA6#8), (initAt 8 3, 0xA8#8),
        (initAt 10 4, 0xAA#8), (initAt 12 5, 0xAC#8), (initAt 15 6, 0xFE#8), (under .getT 0, 0x5A#8),
        (under .getTph 3, 0x4A#8), (under .getTh 3, 0xE5#8)],
      (q.1 [.ok []]).nextEvent = some (.command q.2) ∧ answerOk 0 (q.1 [.ok []]).answer = true
      ∧ (q.1 [.err]).nextEvent = some (.command q.2) ∧ answerOk 0 (q.1 [.err]).answer = false := by decide
/-- The operations in which the convert commands stand, one for each clause. -/
theorem test_witness_convert_operations :
    (∀ o ∈ [Op.getT, Op.getTp, Op.getTph, Op.getTh], (under o 0 [.err]).nextEvent = some (.command 0x5A#8))
    ∧ ∀ o ∈ [Op.getTp, Op.getTph], (under o 3 [.err]).nextEvent = some (.command 0x4A#8) := by decide
theorem test_witness_out_of_sequence : (ready []).nextEvent ≠ some (.command 0x5A#8) := by decide
theorem test_witness_request_frame :
    (∃ t, exec .init (ready []) = .next t ∧ t.status.busy ≠ (ready []).status.busy)
    ∧ (∃ t, exec .getT State.reset = .next t ∧ t.status.busy = State.reset.status.busy)
    ∧ (Claims.measurement .getT).isSome = true := by
  refine ⟨⟨_, rfl, by decide⟩, ⟨_, rfl, by decide⟩, rfl⟩
theorem test_witness_command_frame :
    (∃ t, exec .busConvertT (under .getT 0 [.err]) = .next t)
    ∧ (∃ t, exec .busResetRh (initAt 15 6 [.ok []]) = .next t) := ⟨⟨_, rfl⟩, ⟨_, rfl⟩⟩
theorem test_witness_fixed_point_inputs :
    (16777215 : Int) = (firstOrder 0#16 65535#16 16777215#24).dt
    ∧ (-16776960 : Int) = (firstOrder 65535#16 65535#16 0#24).dt
    ∧ (-16776960 : Int) = deltaT 65535#16 0#24 := by decide +kernel
/-- L2-TP6: the value just below the threshold, where `X` = -1. -/
theorem test_witness_regime_signs : fixX 1#16 (-1) < 0 ∧ fixY 3500#16 (-8388608) = 0 := by decide
theorem test_witness_compensate :
    compensate 1#16 1#16 1#16 1#16 1#24 0 (firstTemp 0#16 0) = compensate 1#16 1#16 1#16 1#16 1#24 0 2000 := by
  decide +kernel
theorem test_witness_neutral_operand :
    (ready []).status.busy = false ∧ (ready []).status.state = .ready ∧ (ready []).schedule = []
    ∧ ∃ t t' u u', exec (.getRh none) (ready [.ok [], .ok [0x80#8, 0x00#8]]) = .next t
      ∧ exec (.getRh (some 20)) (ready [.ok [], .ok [0x80#8, 0x00#8]]) = .next t'
      ∧ runSteps 2 t = .next u ∧ runSteps 2 t' = .next u' :=
  ⟨rfl, rfl, rfl, _, _, _, _, rfl, rfl, rfl, rfl⟩
theorem test_witness_status_word :
    (ready []).status.calCount ≤ 6 ∧ State.reset.status.calCount ≤ 6 := by decide
/-- Each clause of the register map: a calibration register that reads as its value (the last of a full file) and one that
reads as absent (the last written, one beyond `CAL_COUNT`), an absent and a valid `RES_T`, an absent `RES_P`. -/
theorem test_witness_register_map :
    (ready []).cal.get 5 = some 25000#16 ∧ 5 < (ready []).status.calCount
    ∧ { ready [] with status := Status.reset }.cal.get 0 = some 40000#16 ∧ ¬ 0 < Status.reset.calCount
    ∧ (ready []).status.vT = false ∧ (ready []).status.vP = false
    ∧ ∃ s : State, s.status.vT = true ∧ s.res.t = some 20 :=
  ⟨rfl, by decide, rfl, by decide, rfl, rfl,
    { ready [] with status := { (ready []).status with vT := true }, res := { ResultRegs.empty with t := some 20 } },
    rfl, rfl⟩
theorem test_witness_host_read :
    { ready [] with schedule := [.read 0x06] }.schedule = .read 0x06 :: []
    ∧ readRegister (ready []) 0x06 = some (.word16 25000#16)
    ∧ { ready [] with schedule := [.read 0x07] }.schedule = .read 0x07 :: [] ∧ indexListed 0x07 = false :=
  ⟨rfl, by decide, rfl, by decide⟩

/-- The invariant of a block idle in READY. -/
theorem test_witness_inv_ready : Inv (ready []) where
  flags := by constructor <;> decide
  valid := by constructor <;> decide
  cal := by decide
  ready := by decide
  uninit := by decide
  seq := by decide
  busy := fun h => absurd h (by decide)

/-- The invariant of a block that runs GET_TPH at its first event. -/
theorem test_witness_inv_running : Inv (under .getTph 0 [.err]) where
  flags := by constructor <;> decide
  valid := by constructor <;> decide
  cal := by decide
  ready := by decide
  uninit := by decide
  seq := by decide
  busy := fun _ => by
    simp only [running, under, progress, freshT, freshP, freshRh]
    decide

theorem test_witness_step_of_inv :
    (∃ t, step (under .getTph 0 [.err]) = .next t) ∧ (∃ t, step (ready []) = .next t) := ⟨⟨_, rfl⟩, ⟨_, rfl⟩⟩
theorem test_witness_legal_history : legalHistory (under .getTph 0 [.err]) := by
  intro r hr
  cases hr
theorem test_witness_results_last :
    ∃ s t : State, step s = .next t ∧ s.status.busy = false ∧ t.status.busy = false
      ∧ s.schedule.head? ≠ some .blockReset ∧ s.status.vT = true :=
  ⟨{ ready [] with status := { (ready []).status with vT := true }, schedule := [.read 0x12] }, _, rfl, rfl, rfl,
    by decide, rfl⟩
theorem test_witness_obtained :
    (under .getTph 0 [.err]).status.busy = true ∧ (under .getTph 0 [.err]).op ≠ some .init
    ∧ (under .getTph 0 [.err]).schedule.head? ≠ some .blockReset := by decide

/-- GET_TPH at its event 6 with the temperature and the pressure obtained: both clauses about what was obtained. -/
def obtained : State :=
  { under .getTph 6 [.err] with
    status := { (under .getTph 6 []).status with
      vDt := true, vTemp := true, vT := true, vP := true, vD2 := true, vD1 := true, regime := .high }
    raw := { d2 := some 8388608#24, d1 := some 6500000#24, d3 := none }
    res := { dt := some 0, temp := some 2000, t := some 20, p := some (2129005 / 2048), rh := none
             off := some 4718592000, sens := some 2621440000, t2 := some 0, off2 := some 0, sens2 := some 0
             tempc := some 2000 } }

theorem test_witness_obtained_values : Inv obtained ∧ obtained.status.busy = true ∧ obtained.op ≠ some .init
    ∧ obtained.schedule.head? ≠ some .blockReset ∧ (∃ t, step obtained = .next t)
    ∧ obtained.status.vT = true ∧ obtained.status.vP = true := by
  refine ⟨?_, rfl, by decide, by decide, ⟨_, rfl⟩, rfl, rfl⟩
  refine ⟨?_, ?_, by decide, by decide, by decide, by decide, fun _ => ?_⟩
  · constructor <;> decide
  · constructor <;> decide
  · simp only [running, obtained, under, progress, freshT, freshP, freshRh]
    decide

theorem test_witness_wait : (under .getT 1 []).nextEvent = some .waitConversion ∧ (under .getT 1 []).schedule = []
    ∧ (eventList .getT)[0]? = some (.command 0x5A#8) ∧ (eventList .getT)[1]? = some .waitConversion
    ∧ (eventList .getT)[2]? = some .readD2 ∧ (eventList .getTph)[3]? = some (.command 0x4A#8)
    ∧ (eventList .getTph)[5]? = some .readD1 ∧ (eventList .getRh)[0]? = some (.command 0xE5#8)
    ∧ (eventList .getTh)[4]? = some .readD3 := by decide
theorem test_witness_completes :
    (under .getTph 0 [.err]).status.busy = true ∧ (under .getTph 0 [.err]).schedule = [] := by decide
theorem test_witness_sequencer :
    Claims.measurement .getTph = some (.getTph, none) ∧ (ready []).status.busy = false ∧ (ready []).schedule = []
    ∧ (∃ t, exec .getTph (ready []) = .next t ∧ t.status.busy = true)
    ∧ State.reset.status.busy = false ∧ State.reset.schedule = []
    ∧ ∃ t, exec .init State.reset = .next t ∧ t.status.busy = true :=
  ⟨rfl, rfl, rfl, ⟨_, rfl, rfl⟩, rfl, rfl, _, rfl, rfl⟩
/-- GET_TPH and GET_TH, with the temperature obtained and the pressure read failing. -/
theorem test_witness_composites :
    (ready []).status.busy = false ∧ (ready []).status.state = .ready ∧ (ready []).schedule = []
    ∧ (∃ t u t1 v t2 w, exec .getTph (ready [.ok [], .ok [1#8, 2#8, 3#8], .err, .ok [], .ok [4#8, 5#8]]) = .next t
      ∧ runSteps 16 t = .next u
      ∧ exec .getTp (ready [.ok [], .ok [1#8, 2#8, 3#8], .err, .ok [], .ok [4#8, 5#8]]) = .next t1
      ∧ runSteps 16 t1 = .next v ∧ exec (.getRh v.res.t) v = .next t2 ∧ runSteps 16 t2 = .next w)
    ∧ ∃ t u t1 v t2 w, exec .getTh (ready [.ok [], .ok [1#8, 2#8, 3#8], .ok [], .ok [4#8, 5#8]]) = .next t
      ∧ runSteps 16 t = .next u ∧ exec .getT (ready [.ok [], .ok [1#8, 2#8, 3#8], .ok [], .ok [4#8, 5#8]]) = .next t1
      ∧ runSteps 16 t1 = .next v ∧ exec (.getRh v.res.t) v = .next t2 ∧ runSteps 16 t2 = .next w :=
  ⟨rfl, rfl, rfl, ⟨_, _, _, _, _, _, rfl, rfl, rfl, rfl, rfl, rfl⟩, _, _, _, _, _, _, rfl, rfl, rfl, rfl, rfl, rfl⟩
/-- Two blocks that agree on the calibration, the answers and the operand, and differ in what they held. -/
theorem test_witness_outputs :
    Claims.measurement .getTph = some (.getTph, none)
    ∧ ∃ s s' t t' u u' : State, s.res ≠ s'.res ∧ s.status.busy = false ∧ s'.status.busy = false
      ∧ s.status.state = .ready ∧ s'.status.state = .ready ∧ s.schedule = [] ∧ s'.schedule = [] ∧ s.cal = s'.cal
      ∧ s.script = s'.script ∧ s.draws = s'.draws ∧ exec .getTph s = .next t ∧ exec .getTph s' = .next t'
      ∧ runSteps 16 t = .next u ∧ runSteps 16 t' = .next u' :=
  ⟨rfl, ready [.err, .ok [], .ok [4#8, 5#8]],
    { ready [.err, .ok [], .ok [4#8, 5#8]] with res := { ResultRegs.empty with rh := some 1 } }, _, _, _, _,
    by decide, rfl, rfl, rfl, rfl, rfl, rfl, rfl, rfl, rfl, rfl, rfl, rfl, rfl⟩

end Sys2Proof.Tests
end

section
/-! Big-endian words (00_scope.md R9): each byte appended on the right shifts the value so far by one byte. -/

namespace Sys2Proof.Machine

/-- A word appended on the right takes the low `n` bits; the word before it has the weight `2 ^ n`. -/
theorem toNat_append_eq_mul_add {m n : Nat} (x : BitVec m) (y : BitVec n) :
    (x ++ y).toNat = x.toNat * 2 ^ n + y.toNat := by
  rw [BitVec.toNat_append, ← Nat.shiftLeft_add_eq_or_of_lt y.isLt, Nat.shiftLeft_eq]

theorem be16_toNat (b0 b1 : Byte) : (be16 b0 b1).toNat = b0.toNat * 2 ^ 8 + b1.toNat :=
  toNat_append_eq_mul_add b0 b1

theorem be24_toNat (b0 b1 b2 : Byte) :
    (be24 b0 b1 b2).toNat = b0.toNat * 2 ^ 16 + b1.toNat * 2 ^ 8 + b2.toNat :=
  calc (be24 b0 b1 b2).toNat
      = (be16 b0 b1).toNat * 2 ^ 8 + b2.toNat := toNat_append_eq_mul_add (b0 ++ b1) b2
    _ = b0.toNat * 2 ^ 16 + b1.toNat * 2 ^ 8 + b2.toNat := by rw [be16_toNat]; ring

/-- Settles O14, by the value of an appended word. -/
theorem bigEndianDecoding : Obligations.BigEndianDecoding :=
  ⟨be16_toNat, be24_toNat⟩

end Sys2Proof.Machine
end

section
/-! The STATUS word by its fields (10_state.md R32), the reset values (R38) and the host's reads (R39). -/

namespace Sys2Proof.Machine

/-- The one-bit fields of STATUS stand at the bits of 10_state.md R32. -/
theorem statusWord_getLsbD (st : Status) :
    (statusWord st).getLsbD 2 = st.busy ∧ (statusWord st).getLsbD 3 = st.fault
    ∧ (statusWord st).getLsbD 7 = false
    ∧ (statusWord st).getLsbD 8 = st.errInit ∧ (statusWord st).getLsbD 9 = st.errT
    ∧ (statusWord st).getLsbD 10 = st.errP ∧ (statusWord st).getLsbD 11 = st.errRh
    ∧ (statusWord st).getLsbD 16 = st.vDt ∧ (statusWord st).getLsbD 17 = st.vTemp
    ∧ (statusWord st).getLsbD 18 = st.vT ∧ (statusWord st).getLsbD 19 = st.vP
    ∧ (statusWord st).getLsbD 20 = st.vRh
    ∧ (statusWord st).getLsbD 23 = st.vD2 ∧ (statusWord st).getLsbD 24 = st.vD1
    ∧ (statusWord st).getLsbD 25 = st.vD3 := by
  refine ⟨?_, ?_, ?_, ?_, ?_, ?_, ?_, ?_, ?_, ?_, ?_, ?_, ?_, ?_, ?_⟩ <;>
  · change BitVec.getLsbD (w := _ + _) (_ ++ _) _ = _
    simp only [BitVec.getLsbD_append]
    simp

/-- The fields of more than one bit stand at the bits of 10_state.md R32. -/
theorem statusWord_extractLsb' (st : Status) :
    (statusWord st).extractLsb' 0 2 = stateBits st.state
    ∧ (statusWord st).extractLsb' 4 3 = BitVec.ofNat 3 st.calCount
    ∧ (statusWord st).extractLsb' 12 4 = faultCodeBits st.faultCode
    ∧ (statusWord st).extractLsb' 21 2 = regimeBits st.regime
    ∧ (statusWord st).extractLsb' 26 6 = 0#6 := by
  refine ⟨?_, ?_, ?_, ?_, ?_⟩ <;>
  · change BitVec.extractLsb' (n := _ + _) _ _ (_ ++ _) = _
    simp (disch := decide) only [BitVec.extractLsb'_append_eq_of_le, BitVec.extractLsb'_append_eq_of_add_le]
    exact BitVec.extractLsb'_eq_self

/-- Settles O45, by peeling the fields off the appended word, and by the codes' tables. -/
theorem statusWordLayout : Obligations.StatusWordLayout := by
  refine ⟨fun st hcount => ?_, rfl, rfl, rfl, rfl, rfl, rfl, rfl, rfl, rfl, rfl, rfl⟩
  obtain ⟨busy, fault, reserved, errInit, errT, errP, errRh, vDt, vTemp, vT, vP, vRh, vD2, vD1, vD3⟩ :=
    statusWord_getLsbD st
  obtain ⟨state, calCount, faultCode, regime, high⟩ := statusWord_extractLsb' st
  have calCount' : ((statusWord st).extractLsb' 4 3).toNat = st.calCount := by
    rw [calCount, BitVec.toNat_ofNat]
    exact Nat.mod_eq_of_lt (by omega)
  exact ⟨state, busy, fault, calCount', reserved, errInit, errT, errP, errRh, faultCode, vDt, vTemp, vT, vP,
    vRh, regime, vD2, vD1, vD3, high⟩

/-- Settles O1: the reset state is defined by the table of 10_state.md R38. -/
theorem resetGivesTheListedValues : Obligations.ResetGivesTheListedValues :=
  ⟨rfl, rfl, rfl, rfl, rfl, rfl, rfl, rfl, rfl, rfl⟩

/-- No index that the register map leaves out is read (20_memory.md R58). -/
theorem readRegister_unlisted (s : State) {k : Nat} (h : indexListed k = false) : readRegister s k = none := by
  by_cases hk : k < 0x20
  · have hres : k ∈ reservedIndices := by simpa [indexListed, hk] using h
    simp only [reservedIndices, List.mem_cons, List.not_mem_nil, or_false] at hres
    rcases hres with rfl | rfl | rfl | rfl | rfl | rfl | rfl | rfl | rfl | rfl | rfl <;> rfl
  · obtain ⟨m, rfl⟩ := Nat.exists_eq_add_of_le' (Nat.le_of_not_lt hk)
    rfl

theorem State.hostRead_of_some {s : State} {k : Nat} {v : RegValue} (h : readRegister s k = some v) :
    s.hostRead k = s.reply (.value k v) := by
  simp [State.hostRead, h]

theorem State.hostRead_of_none {s : State} {k : Nat} (h : readRegister s k = none) :
    s.hostRead k = (s.raiseFault .illegal).reply (.value k .absent) := by
  simp [State.hostRead, h]

/-- Settles O47, by what a host read does in each of its two cases. -/
theorem hostReadsHaveNoSideEffect : Obligations.HostReadsHaveNoSideEffect := by
  intro s k rest hs
  have hstep : step s = .next (State.hostRead k { s with schedule := rest }) := by
    simp [step, takeTurn, hs]
  have hreg : readRegister { s with schedule := rest } k = readRegister s k := rfl
  refine ⟨fun v hv => ?_, fun hk => ?_⟩
  · rw [hstep, State.hostRead_of_some (hreg.trans hv)]
    rfl
  · rw [hstep, State.hostRead_of_none (readRegister_unlisted _ hk)]
    rfl

end Sys2Proof.Machine
end

section
/-! What an entry of an event list does when it runs: where it stands, which phase its error ends, what its answer
writes. Then what a presented request does. -/

namespace Sys2Proof.Machine

variable {s t m : State} {o : Op} {n : Nat} {e : BusStep}

/-! ### Where the entries stand, and their phases -/

/-- Where an entry stands in the event lists (40_init.md R102; 41_temperature.md R121; 42_pressure.md R142;
43_humidity.md R171). -/
def BusStep.standsAt (o : Op) (n : Nat) : BusStep → Prop
  | .openDevice d => o = .init ∧ (d = .tp ∧ n = 0 ∨ d = .rh ∧ n = 14)
  | .command c =>
    o = .init ∧ c = 0xFE#8 ∧ n = 15
    ∨ o = .init ∧ c ∉ [0xFE#8, 0x5A#8, 0x4A#8, 0xE5#8] ∧ (n = 1 ∨ 2 ≤ n ∧ n ≤ 12 ∧ n % 2 = 0)
    ∨ c = 0x5A#8 ∧ n = 0 ∧ (o = .getT ∨ o = .getTp ∨ o = .getTph ∨ o = .getTh)
    ∨ c = 0x4A#8 ∧ n = 3 ∧ (o = .getTp ∨ o = .getTph)
    ∨ c = 0xE5#8 ∧ (o = .getRh ∧ n = 0 ∨ o = .getTph ∧ n = 6 ∨ o = .getTh ∧ n = 3)
  | .waitConversion =>
    n = 1 ∧ (o = .getT ∨ o = .getTp ∨ o = .getTph ∨ o = .getTh) ∨ n = 4 ∧ (o = .getTp ∨ o = .getTph)
  | .readCal k => o = .init ∧ k < 6 ∧ n = 3 + 2 * k
  | .readD2 => n = 2 ∧ (o = .getT ∨ o = .getTp ∨ o = .getTph ∨ o = .getTh)
  | .readD1 => n = 5 ∧ (o = .getTp ∨ o = .getTph)
  | .readD3 => o = .getRh ∧ n = 1 ∨ o = .getTph ∧ n = 7 ∨ o = .getTh ∧ n = 4

theorem standsAt_of_getElem? (h : (eventList o)[n]? = some e) : e.standsAt o n := by
  have hall : ∀ p ∈ (eventList o).zipIdx, p.1.standsAt o p.2 := by
    cases o <;> simp [eventList, initList, acqTList, acqPList, acqRhList, BusStep.standsAt]
  exact hall _ (List.mk_mem_zipIdx_iff_getElem?.mpr h)

/-- The phase a command byte belongs to (40_init.md R102, 41_temperature.md R121, 42_pressure.md R142, 43_humidity.md
R171). -/
def commandPhase (c : Byte) : Phase :=
  if c = 0x5A#8 then .acqT else if c = 0x4A#8 then .acqP else if c = 0xE5#8 then .acqRh else .init

/-- The phase that an error of the entry ends; a wait cannot fail (60_exceptions.md R201). -/
def BusStep.phase : BusStep → Option Phase
  | .openDevice _ => some .init
  | .command c => some (commandPhase c)
  | .waitConversion => none
  | .readCal _ => some .init
  | .readD2 => some .acqT
  | .readD1 => some .acqP
  | .readD3 => some .acqRh

/-- How many bytes the entry expects in its answer (20_memory.md R52). -/
def BusStep.byteCount : BusStep → Nat
  | .openDevice _ | .command _ | .waitConversion => 0
  | .readCal _ | .readD3 => 2
  | .readD2 | .readD1 => 3

/-- INIT ends with 0xFE (40_init.md R102). -/
theorem eq_resetRh_of_last (hs : e.standsAt .init n) (hn : 15 ≤ n) : e = .command 0xFE#8 := by
  cases e with
  | command c =>
    obtain ⟨-, rfl, -⟩ | ⟨-, -, hn'⟩ | ⟨-, -, ho⟩ | ⟨-, -, ho⟩ | ⟨-, ho⟩ := hs
    · rfl
    · omega
    all_goals simp at ho
  | openDevice | readCal => have := hs.2; omega
  | waitConversion | readD2 | readD1 | readD3 => simp [BusStep.standsAt] at hs

/-- The events of a phase in an operation's list. -/
def Phase.spans (o : Op) (n : Nat) : Phase → Prop
  | .init => o = .init
  | .acqT => n < 3 ∧ (o = .getT ∨ o = .getTp ∨ o = .getTph ∨ o = .getTh)
  | .acqP => 3 ≤ n ∧ n < 6 ∧ (o = .getTp ∨ o = .getTph)
  | .acqRh => o = .getRh ∨ o = .getTph ∨ o = .getTh

theorem spans_of_standsAt {ph : Phase} (hs : e.standsAt o n) (hph : e.phase = some ph) : ph.spans o n := by
  cases e with
  | command c =>
    obtain rfl := Option.some.inj hph
    obtain ⟨ho, rfl, -⟩ | ⟨ho, hc, -⟩ | ⟨rfl, rfl, ho⟩ | ⟨rfl, rfl, ho⟩ | ⟨rfl, ho⟩ := hs
    · exact ho
    · have hphase : commandPhase c = .init := by
        simp only [List.mem_cons, not_or] at hc
        simp [commandPhase, hc]
      rw [hphase]
      exact ho
    · exact ⟨by omega, ho⟩
    · exact ⟨by omega, by omega, ho⟩
    · exact ho.imp And.left (Or.imp And.left And.left)
  | openDevice | readCal => obtain rfl := Option.some.inj hph; exact hs.1
  | waitConversion => cases hph
  | readD2 => obtain rfl := Option.some.inj hph; exact ⟨by have := hs.1; omega, hs.2⟩
  | readD1 =>
    obtain ⟨rfl, ho⟩ := hs
    obtain rfl := Option.some.inj hph
    exact ⟨by omega, by omega, ho⟩
  | readD3 => obtain rfl := Option.some.inj hph; exact hs.imp And.left (Or.imp And.left And.left)

/-! ### Running an entry -/

/-- The decoder reads a command from the eleven bytes of 30_encoding.md R71 alone. -/
theorem mem_of_decodeCommand {c : Byte} {i : Instr} (h : decodeCommand c = .instr i) :
    c ∈ [0x1E#8, 0xA2#8, 0xA4#8, 0xA6#8, 0xA8#8, 0xAA#8, 0xAC#8, 0x5A#8, 0x4A#8, 0xFE#8, 0xE5#8] := by
  by_contra hc
  simp only [List.mem_cons, List.not_mem_nil, or_false, not_or] at hc
  simp [decodeCommand, hc] at h

/-- A command is its byte, sent to the byte's sub-device in the byte's phase; 0xFE alone also completes INIT. -/
theorem exec_of_decodeCommand {c : Byte} {i : Instr} (h : decodeCommand c = .instr i) (s : State) :
    exec i s = if c = 0xFE#8 then execBusResetRh s else emitCommand (commandDevice c) c (commandPhase c) s := by
  have hc := mem_of_decodeCommand h
  simp only [List.mem_cons, List.not_mem_nil, or_false] at hc
  rcases hc with rfl | rfl | rfl | rfl | rfl | rfl | rfl | rfl | rfl | rfl | rfl <;>
  · obtain rfl := Decoded.instr.inj h
    rfl

/-- A command byte of the table at its place is sent. -/
theorem runCommand_of_nextEvent {c : Byte} (h : s.nextEvent = some (.command c)) :
    runCommand c s =
      .next (if c = 0xFE#8 then s.issueResetRh else s.issueCommand (commandDevice c) c (commandPhase c)) := by
  obtain ⟨-, o, -, he⟩ := State.nextEvent_eq_some.mp h
  obtain ⟨i, hi⟩ := eventList_command he
  rw [runCommand, hi]
  show exec i s = _
  rw [exec_of_decodeCommand hi]
  by_cases hc : c = 0xFE#8
  · subst hc
    simp [execBusResetRh, h]
  · simp [hc, emitCommand, h]

theorem eventOf_openDevice (cfg : Config) (d : Device) :
    Claims.eventOf cfg (.openDevice d) = .busOpen (cfg.addr d) := by
  cases d <;> rfl

theorem eventOf_command (cfg : Config) (c : Byte) :
    Claims.eventOf cfg (.command c) = .busWrite (cfg.addr (commandDevice c)) c := by
  by_cases h : c = 0xFE#8 ∨ c = 0xE5#8 <;> simp [Claims.eventOf, commandDevice, Config.addr, h]

/-- The state in which the entry's bus event has been answered and nothing is written yet. -/
def BusStep.exchanged (e : BusStep) (s : State) : State := s.exchange (Claims.eventOf s.cfg e)

/-- What an entry leaves that is not answered with an error, before the sequencer goes on: the exchange with the bus
agent and the writes that follow it. -/
inductive BusStep.Done (s : State) : BusStep → State → Prop
  | openDevice (d : Device) (ha : answerOk 0 s.answer = true) :
    Done s (.openDevice d) ((exchanged (.openDevice d) s).setHandle d)
  | command {c : Byte} (hc : c ≠ 0xFE#8) (ha : answerOk 0 s.answer = true) :
    Done s (.command c) (exchanged (.command c) s)
  | resetRh (ha : answerOk 0 s.answer = true) : Done s (.command 0xFE#8) (exchanged (.command 0xFE#8) s).setReady
  | waitConversion : Done s .waitConversion (s.record (.sleep s.cfg.convWaitMs) (.ok []))
  | readCal (k : Nat) (v : Word16) (ha : answer16 s.answer = some v) :
    Done s (.readCal k) ((exchanged (.readCal k) s).writeCal k v)
  | readD2 (v : Word24) (f : FirstOrder) (ha : answer24 s.answer = some v) (hf : calFirstOrder s.cal v = some f) :
    Done s .readD2 (((exchanged .readD2 s).writeD2 v).keepFirstOrder f)
  | readD1 (v : Word24) (c : Compensated) (ha : answer24 s.answer = some v)
    (hc : calCompensate s.cal s.res v = some c) :
    Done s .readD1 (((exchanged .readD1 s).writeD1 v).writeCompensated c)
  | readD3 (v : Word16) (ha : answer16 s.answer = some v) :
    Done s .readD3 (((exchanged .readD3 s).writeD3 v).writeRh (humidity v (correctingTemperature s)))

/-- What an entry leaves that is answered with an error: its phase has ended. -/
def BusStep.Failed (s : State) (e : BusStep) (t : State) : Prop :=
  answerOk e.byteCount s.answer = false ∧ ∃ ph, e.phase = some ph ∧ t = (e.exchanged s).failPhase ph

theorem State.openDevice_cases (d : Device) (s : State) :
    (∃ m, BusStep.Done s (.openDevice d) m ∧ s.openDevice d = m.advance) ∨
      BusStep.Failed s (.openDevice d) (s.openDevice d) := by
  unfold State.openDevice
  rw [← eventOf_openDevice]
  cases ha : answerOk 0 s.answer
  · exact .inr ⟨ha, _, rfl, rfl⟩
  · exact .inl ⟨_, .openDevice d ha, rfl⟩

theorem State.issueResetRh_cases (s : State) :
    (∃ m, BusStep.Done s (.command 0xFE#8) m ∧ s.issueResetRh = m.advance) ∨
      BusStep.Failed s (.command 0xFE#8) s.issueResetRh := by
  unfold State.issueResetRh
  cases ha : answerOk 0 s.answer
  · exact .inr ⟨ha, _, rfl, rfl⟩
  · exact .inl ⟨_, .resetRh ha, rfl⟩

theorem State.readCal_cases (k : Nat) (s : State) :
    (∃ m, BusStep.Done s (.readCal k) m ∧ s.readCal k = m.advance) ∨ BusStep.Failed s (.readCal k) (s.readCal k) := by
  unfold State.readCal
  cases ha : answer16 s.answer with
  | none => exact .inr ⟨answer16_eq_none.mp ha, _, rfl, rfl⟩
  | some v => exact .inl ⟨_, .readCal k v ha, rfl⟩

theorem State.readD3_cases (s : State) :
    (∃ m, BusStep.Done s .readD3 m ∧ s.readD3 = m.advance) ∨ BusStep.Failed s .readD3 s.readD3 := by
  unfold State.readD3
  cases ha : answer16 s.answer with
  | none => exact .inr ⟨answer16_eq_none.mp ha, _, rfl, rfl⟩
  | some v => exact .inl ⟨_, .readD3 v ha, rfl⟩

theorem readD2_cases (h : readD2 s = .next t) :
    (∃ m, BusStep.Done s .readD2 m ∧ t = m.advance) ∨ BusStep.Failed s .readD2 t := by
  unfold readD2 at h
  cases ha : answer24 s.answer with
  | none =>
    rw [ha] at h
    exact .inr ⟨answer24_eq_none.mp ha, _, rfl, (Host.Outcome.next.inj h).symm⟩
  | some v =>
    cases hf : calFirstOrder s.cal v with
    | none => simp [ha, hf] at h
    | some f =>
      simp only [ha, hf] at h
      exact .inl ⟨_, .readD2 v f ha hf, (Host.Outcome.next.inj h).symm⟩

theorem readD1_cases (h : readD1 s = .next t) :
    (∃ m, BusStep.Done s .readD1 m ∧ t = m.advance) ∨ BusStep.Failed s .readD1 t := by
  unfold readD1 at h
  cases ha : answer24 s.answer with
  | none =>
    rw [ha] at h
    exact .inr ⟨answer24_eq_none.mp ha, _, rfl, (Host.Outcome.next.inj h).symm⟩
  | some v =>
    cases hc : calCompensate s.cal s.res v with
    | none => simp [ha, hc] at h
    | some c =>
      simp only [ha, hc] at h
      exact .inl ⟨_, .readD1 v c ha hc, (Host.Outcome.next.inj h).symm⟩

theorem runCommand_cases {c : Byte} (hn : s.nextEvent = some (.command c)) (h : runCommand c s = .next t) :
    (∃ m, BusStep.Done s (.command c) m ∧ t = m.advance) ∨ BusStep.Failed s (.command c) t := by
  rw [runCommand_of_nextEvent hn] at h
  obtain rfl := Host.Outcome.next.inj h
  by_cases hc : c = 0xFE#8
  · subst hc
    exact s.issueResetRh_cases
  · rw [if_neg hc]
    obtain ⟨ha, hsent⟩ | ⟨ha, hsent⟩ := State.issueCommand_cases (commandDevice c) c (commandPhase c) s <;>
      rw [hsent, ← eventOf_command]
    · exact .inl ⟨_, .command hc ha, rfl⟩
    · exact .inr ⟨ha, _, rfl, rfl⟩

/-- Everything a running entry can do: it is done and the sequencer goes on, or an error ends its phase. -/
theorem runEvent_cases (hn : s.nextEvent = some e) (h : runEvent e s = .next t) :
    (∃ m, e.Done s m ∧ t = m.advance) ∨ e.Failed s t := by
  cases e with
  | openDevice d => exact Host.Outcome.next.inj h ▸ s.openDevice_cases d
  | command c => exact runCommand_cases hn h
  | waitConversion => exact .inl ⟨_, .waitConversion, (Host.Outcome.next.inj h).symm⟩
  | readCal k => exact Host.Outcome.next.inj h ▸ s.readCal_cases k
  | readD2 => exact readD2_cases h
  | readD1 => exact readD1_cases h
  | readD3 => exact Host.Outcome.next.inj h ▸ s.readD3_cases

/-- A running operation makes its next event. -/
theorem runOperation_of_nextEvent (hn : s.nextEvent = some e) : runOperation s = runEvent e s := by
  obtain ⟨-, o, ho, he⟩ := State.nextEvent_eq_some.mp hn
  rw [runOperation_of_op ho, he]

/-! ### What an entry that is done leaves unchanged -/

/-- What an entry writes leaves the sequencer where it is. -/
theorem sequencer_done (hd : e.Done s m) : m.op = s.op ∧ m.seq = s.seq ∧ m.status.busy = s.status.busy := by
  cases hd with
  | readD2 v f ha hf =>
    unfold State.keepFirstOrder
    split <;> simp [BusStep.exchanged]
  | openDevice | command | resetRh | waitConversion | readCal | readD1 | readD3 => simp [BusStep.exchanged]

/-- What INIT alone writes: the calibration file with its count, `STATE` and the handles (10_state.md R22, R25, R34). -/
def SameCalibration (s t : State) : Prop :=
  t.cal = s.cal ∧ t.status.state = s.status.state ∧ t.hTp = s.hTp ∧ t.hRh = s.hRh
    ∧ t.status.calCount = s.status.calCount

/-- An entry of a measurement writes nothing that INIT alone writes. -/
theorem sameCalibration_done (hs : e.standsAt o n) (ho : o ≠ .init) (hd : e.Done s m) : SameCalibration s m := by
  cases hd with
  | openDevice | readCal => exact absurd hs.1 ho
  | resetRh => simp [BusStep.standsAt, ho] at hs
  | readD2 v f ha hf =>
    unfold State.keepFirstOrder
    split <;> simp [SameCalibration, BusStep.exchanged]
  | command | waitConversion | readD1 | readD3 => simp [SameCalibration, BusStep.exchanged]

/-! ### Requests -/

/-- Every legal request word decodes to INIT or to a measurement (30_encoding.md R75). -/
theorem decodeRequest_cases {r : Request} {i : Instr} (h : decodeRequest r = .instr i) :
    i = .init ∨ ∃ p, Claims.measurement i = some p := by
  unfold decodeRequest at h
  split_ifs at h
  split at h
  case h_4 =>
    unfold decodeGetRh at h
    split_ifs at h
    · split at h
      · obtain rfl := Decoded.instr.inj h
        exact .inr ⟨_, rfl⟩
      · cases h
    · obtain rfl := Decoded.instr.inj h
      exact .inr ⟨_, rfl⟩
  case h_7 => cases h
  case h_1 => exact .inl (Decoded.instr.inj h).symm
  all_goals
    obtain rfl := Decoded.instr.inj h
    exact .inr ⟨_, rfl⟩

/-- A measurement request is checked and accepted as the operation it names. -/
theorem exec_measurement {i : Instr} {arg : Option Rat} (h : Claims.measurement i = some (o, arg)) (s : State) :
    exec i s = .next (admitMeasurement o arg s) ∧ o ≠ .init := by
  cases i <;> simp [Claims.measurement] at h
  all_goals
    obtain ⟨rfl, rfl⟩ := h
    exact ⟨rfl, by decide⟩

/-- Everything a presented request can do (60_exceptions.md R209): it is refused, or an idle block accepts it. -/
theorem presentRequest_outcome (r : Request) (s : State) :
    (∃ c, c ≠ .none ∧ presentRequest r s = .next (s.refuse c)) ∨
    (s.status.state = .ready ∧ ∃ o arg, o ≠ .init ∧ presentRequest r s = .next (s.accept o arg)) ∨
    (s.status.busy = false ∧ decodeRequest r = .instr .init
      ∧ presentRequest r s = .next (s.accept .init none).startInit) := by
  obtain ⟨-, h⟩ | ⟨hb, i, hi, h⟩ | ⟨-, e, -, h⟩ := presentRequest_cases r s
  · exact .inl ⟨_, by decide, h⟩
  · obtain rfl | ⟨⟨o, arg⟩, hm⟩ := decodeRequest_cases hi
    · obtain ⟨hbusy, -⟩ | ⟨-, hinit⟩ := execInit_cases s
      · simp [hb] at hbusy
      · exact .inr (.inr ⟨hb, hi, h.trans hinit⟩)
    · obtain ⟨hexec, ho⟩ := exec_measurement hm s
      obtain ⟨hbusy, -⟩ | ⟨-, -, hadmit⟩ | ⟨-, hready, hadmit⟩ := admitMeasurement_cases o arg s
      · simp [hb] at hbusy
      · exact .inl ⟨.notReady, by decide, by rw [h, hexec, hadmit]⟩
      · exact .inr (.inl ⟨hready, o, arg, ho, by rw [h, hexec, hadmit]⟩)
  · exact .inl ⟨_, by decide, h⟩

end Sys2Proof.Machine
end

section
/-! The invariant of Safety.lean in two parts: what the registers and flags say of one another, which no move of the
sequencer changes, and where the sequencer stands. -/

namespace Sys2Proof.Machine

open Safety

/-- The part of the invariant that the sequencer's moves leave alone. -/
structure Contents (s : State) : Prop where
  flags : Flags s.status
  valid : ValidBits s
  cal : ∀ k, k < 6 → (s.cal.get k).isSome = decide (k < s.status.calCount)
  ready : s.status.state = .ready → s.status.calCount = 6 ∧ s.hTp = true ∧ s.hRh = true

variable {s t m : State} {o : Op} {n : Nat} {e : BusStep}

theorem Contents.of_inv (h : Inv s) : Contents s := ⟨h.flags, h.valid, h.cal, h.ready⟩

/-! ### Writes that keep the contents consistent -/

/-- The contents are STATUS, the registers and the handles. -/
theorem Contents.congr (h : Contents s) (hstatus : t.status = s.status) (hcal : t.cal = s.cal) (hraw : t.raw = s.raw)
    (hres : t.res = s.res) (hTp : t.hTp = s.hTp) (hRh : t.hRh = s.hRh) : Contents t := by
  cases s; cases t
  dsimp only at hstatus hcal hraw hres hTp hRh
  subst hstatus hcal hraw hres hTp hRh
  exact { h with valid := { h.valid with } }

theorem Contents.exchange (h : Contents s) (ev : BusEvent) : Contents (s.exchange ev) :=
  h.congr (by simp) (by simp) (by simp) (by simp) (by simp) (by simp)

theorem Contents.record (h : Contents s) (ev : BusEvent) (a : BusAnswer) : Contents (s.record ev a) :=
  h.congr rfl rfl rfl rfl rfl rfl

theorem Contents.complete (h : Contents s) : Contents s.complete :=
  { flags := { h.flags with }, valid := { h.valid with }, cal := h.cal, ready := h.ready }

theorem Contents.raiseFault (h : Contents s) {c : FaultCode} (hc : c ≠ .none) : Contents (s.raiseFault c) where
  flags := { h.flags with
    fault := by
      cases hf : s.status.fault
      · simp [Status.withFault, hf, hc]
      · simpa [Status.withFault, hf] using h.flags.fault }
  valid := { h.valid with }
  cal := h.cal
  ready := h.ready

theorem Contents.setHandle (h : Contents s) (hstate : s.status.state ≠ .ready) (d : Device) :
    Contents (s.setHandle d) := by
  cases d <;>
  exact { flags := h.flags, valid := { h.valid with }, cal := h.cal, ready := fun hr => absurd hr hstate }

theorem Contents.setReady (h : Contents s) (hstate : s.status.state = .uninit) (hcount : s.status.calCount = 6)
    (hTp : s.hTp = true) (hRh : s.hRh = true) : Contents s.setReady where
  flags := { h.flags with errInit := by simpa [hstate] using h.flags.errInit }
  valid := { h.valid with }
  cal := h.cal
  ready := fun _ => ⟨hcount, hTp, hRh⟩

/-- Writing `CAL[k]` writes that register and no other. -/
theorem CalFile.get_set (c : CalFile) {k : Nat} (hk : k < 6) (v : Word16) (j : Nat) :
    (c.set k v).get j = if j = k then some v else c.get j := by
  interval_cases k <;> unfold CalFile.get CalFile.set <;> split <;> simp_all

theorem Contents.writeCal (h : Contents s) (hstate : s.status.state ≠ .ready) {k : Nat} (hk : k < 6)
    (hcount : s.status.calCount = k) (v : Word16) : Contents (s.writeCal k v) where
  flags := { h.flags with calCount := hk }
  valid := { h.valid with }
  cal := by
    intro j hj
    have hold : (s.cal.get j).isSome = decide (j < k) := hcount ▸ h.cal j hj
    show ((s.cal.set k v).get j).isSome = decide (j < k + 1)
    rw [CalFile.get_set _ hk]
    by_cases hjk : j = k
    · simp [hjk]
    · simp only [if_neg hjk, hold]
      exact decide_eq_decide.mpr (by omega)
  ready := fun hr => absurd hr hstate

theorem Contents.writeFirstOrder (h : Contents s) (hfresh : freshT s.status) (v : Word24) (f : FirstOrder) :
    Contents ((s.writeD2 v).writeFirstOrder f) where
  flags := { h.flags with
    dtTemp := rfl, tempT := fun _ => rfl, pTemp := fun _ => rfl, sampleT := rfl
    errT := fun he => absurd (hfresh.2.symm.trans he) (by decide)
    errP := fun he => ⟨(h.flags.errP he).1, rfl⟩ }
  valid := { h.valid with dt := rfl, temp := rfl, t := rfl, d2 := rfl }
  cal := h.cal
  ready := h.ready

theorem Contents.writeTOnly (h : Contents s) (hfresh : freshT s.status) (v : Word24) (f : FirstOrder) :
    Contents ((s.writeD2 v).writeTOnly f) where
  flags := { h.flags with
    tempT := fun _ => rfl, sampleT := rfl
    errT := fun he => absurd (hfresh.2.symm.trans he) (by decide) }
  valid := { h.valid with t := rfl, d2 := rfl }
  cal := h.cal
  ready := h.ready

theorem Contents.writeCompensated (h : Contents s) (hfresh : freshP s.status) (htemp : s.status.vTemp = true)
    (v : Word24) {c : Compensated} (hc : c.regime ≠ .none) : Contents ((s.writeD1 v).writeCompensated c) where
  flags := { h.flags with
    regime := ⟨fun _ => rfl, fun _ => hc⟩, pTemp := fun _ => htemp, sampleP := rfl
    errP := fun he => absurd (hfresh.2.symm.trans he) (by decide) }
  valid := { h.valid with
    p := rfl, off := rfl, sens := rfl, t2 := rfl, off2 := rfl, sens2 := rfl, tempc := rfl, d1 := rfl }
  cal := h.cal
  ready := h.ready

theorem Contents.writeRh (h : Contents s) (hfresh : freshRh s.status) (v : Word16) (r : Rat) :
    Contents ((s.writeD3 v).writeRh r) where
  flags := { h.flags with
    sampleRh := rfl, errRh := fun he => absurd (hfresh.2.symm.trans he) (by decide) }
  valid := { h.valid with rh := rfl, d3 := rfl }
  cal := h.cal
  ready := h.ready

/-- COMPENSATE answers one of the three regimes (42_pressure.md R144). -/
theorem regime_of_calCompensate {c : CalFile} {r : ResultRegs} {v : Word24} {p : Compensated}
    (h : calCompensate c r v = some p) : p.regime ≠ .none := by
  unfold calCompensate at h
  split at h
  · obtain rfl := Option.some.inj h
    unfold compensate secondOrder
    split_ifs <;> simp [secondVeryLow, secondLow, secondHigh]
  · cases h

/-! ### Where the sequencer stands -/

/-- How far an operation is does not depend on `BUSY`. -/
theorem progress_congr (hstatus : t.status = { s.status with busy := t.status.busy }) (hTp : t.hTp = s.hTp)
    (hRh : t.hRh = s.hRh) (h : progress o n s) : progress o n t := by
  unfold progress at h ⊢
  rw [hstatus, hTp, hRh]
  exact h

/-- The invariant of a state whose sequencer has just moved. -/
theorem inv_settle (h : Contents s) (ho : s.op = some o) (hbusy : s.status.busy = true) (hseq : s.seq ≤ 16)
    (hend : (eventList o).length ≤ s.seq → s.status.state ≠ .uninit)
    (hprogress : s.seq < (eventList o).length → progress o s.seq s) : Inv s.settle := by
  have hcont : Contents s.settle := by
    unfold State.settle
    split
    · split
      · exact h.complete
      · exact h
    · exact h
  have hb := State.settle_busy s ho
  by_cases hlt : s.seq < (eventList o).length
  · refine { hcont with uninit := ?_, seq := by simpa, busy := fun _ => ?_ }
    · intro _ hidle
      simp [hb, hbusy, hlt] at hidle
    · unfold running
      simp only [State.settle_op, ho, State.settle_seq]
      exact ⟨hlt, progress_congr s.settle_status (by simp) (by simp) (hprogress hlt)⟩
  · refine { hcont with uninit := ?_, seq := by simpa, busy := fun hrun => ?_ }
    · intro hst
      exact absurd (by simpa using hst) (hend (by omega))
    · simp [hb, hlt] at hrun

/-! ### What the progress of an operation says -/

theorem freshT_of_progress (h : progress o n s) (hn : n < 3) : freshT s.status := by
  cases o <;> simp only [progress] at h <;> simp [h, hn]

theorem freshP_of_progress (h : progress o n s) (hn : n < 6) : freshP s.status := by
  cases o <;> simp only [progress] at h <;> simp [h, hn]

theorem freshRh_of_progress (h : progress o n s) : freshRh s.status := by
  cases o <;> simp only [progress] at h <;> simp [h]

/-- ACQ_P runs only where the temperature was obtained (42_pressure.md R141). -/
theorem vTemp_of_progress (h : progress o n s) (ho : o = .getTp ∨ o = .getTph) (h3 : 3 ≤ n) (h6 : n < 6) :
    s.status.vTemp = true := by
  obtain rfl | rfl := ho <;> simp only [progress] at h <;> simp [h, h3, h6]

theorem ready_of_progress (h : progress o n s) (ho : o ≠ .init) : s.status.state = .ready := by
  cases o
  case init => exact absurd rfl ho
  all_goals exact h.1

/-- INIT comes one event further where that changes neither its count of words nor its handles. -/
theorem progress_init_succ (h : progress .init n s) (hcount : (n - 2) / 2 = (n + 1 - 2) / 2) (h1 : 1 ≤ n)
    (h14 : n ≠ 14) : progress .init (n + 1) s := by
  obtain ⟨hstate, hwords, hTp, hRh, hfresh⟩ := h
  exact ⟨hstate, hwords.trans hcount, hTp.trans (decide_eq_decide.mpr (by omega)),
    hRh.trans (decide_eq_decide.mpr (by omega)), hfresh⟩

/-! ### An entry that is done -/

/-- What an entry leaves is consistent, given how far its operation was before it. -/
theorem Contents.done (h : Contents s) (hp : progress o n s) (hs : e.standsAt o n) (hd : e.Done s m) :
    Contents m := by
  have hg : Contents (e.exchanged s) := h.exchange _
  have hstatus : (e.exchanged s).status = s.status := State.exchange_status ..
  cases hd with
  | openDevice d =>
    obtain ⟨rfl, -⟩ := hs
    exact hg.setHandle (by simp [hstatus, hp.1]) d
  | command => exact hg
  | resetRh =>
    obtain ⟨rfl, rfl⟩ : o = .init ∧ n = 15 := by simpa [BusStep.standsAt] using hs
    obtain ⟨hstate, hcount, hTp, hRh, -⟩ := hp
    exact hg.setReady (hstatus ▸ hstate) (hstatus ▸ hcount) (by simpa [BusStep.exchanged] using hTp)
      (by simpa [BusStep.exchanged] using hRh)
  | waitConversion => exact h.record ..
  | readCal k v =>
    obtain ⟨rfl, hk, rfl⟩ := hs
    obtain ⟨hstate, hcount, -⟩ := hp
    exact hg.writeCal (by simp [hstatus, hstate]) hk (by rw [hstatus]; omega) v
  | readD2 v f =>
    obtain ⟨rfl, -⟩ := hs
    have hfresh : freshT (BusStep.readD2.exchanged s).status := hstatus ▸ freshT_of_progress hp (by decide)
    unfold State.keepFirstOrder
    split
    · exact hg.writeTOnly hfresh v f
    · exact hg.writeFirstOrder hfresh v f
  | readD1 v c _ hc =>
    obtain ⟨rfl, ho⟩ := hs
    have hfresh : freshP (BusStep.readD1.exchanged s).status := hstatus ▸ freshP_of_progress hp (by decide)
    have htemp := vTemp_of_progress hp ho (by decide) (by decide)
    exact hg.writeCompensated hfresh (hstatus ▸ htemp) v (regime_of_calCompensate hc)
  | readD3 v => exact hg.writeRh (hstatus ▸ freshRh_of_progress hp) v _

/-- An entry that is done leaves its operation one event further. -/
theorem progress_done (hp : progress o n s) (hs : e.standsAt o n) (ho : s.op = some o) (hd : e.Done s m)
    (hlt : n + 1 < (eventList o).length) : progress o (n + 1) m := by
  have hg : progress o n (e.exchanged s) :=
    progress_congr (by simp [BusStep.exchanged]) (State.exchange_hTp ..) (State.exchange_hRh ..) hp
  cases hd with
  | openDevice d =>
    obtain ⟨rfl, hd⟩ := hs
    obtain ⟨hstate, hcount, hTp, hRh, hfresh⟩ := hg
    obtain ⟨rfl, rfl⟩ | ⟨rfl, rfl⟩ := hd
    · exact ⟨hstate, hcount, rfl, hRh, hfresh⟩
    · exact ⟨hstate, hcount, hTp, rfl, hfresh⟩
  | command hc =>
    obtain ⟨-, rfl, -⟩ | ⟨rfl, -, hn⟩ | ⟨-, rfl, rfl | rfl | rfl | rfl⟩ | ⟨-, rfl, rfl | rfl⟩ |
      ⟨-, ⟨rfl, rfl⟩ | ⟨rfl, rfl⟩ | ⟨rfl, rfl⟩⟩ := hs
    · exact absurd rfl hc
    · exact progress_init_succ hg (by omega) (by omega) (by omega)
    all_goals simp_all [progress]
  | resetRh =>
    obtain ⟨rfl, rfl⟩ : o = .init ∧ n = 15 := by simpa [BusStep.standsAt] using hs
    simp [eventList, initList] at hlt
  | waitConversion =>
    obtain ⟨rfl, rfl | rfl | rfl | rfl⟩ | ⟨rfl, rfl | rfl⟩ := hs <;> simpa [progress] using hp
  | readCal k v =>
    obtain ⟨rfl, hk, rfl⟩ := hs
    obtain ⟨hstate, hcount, hTp, hRh, hfresh⟩ := hg
    refine ⟨hstate, ?_, ?_, ?_, hfresh⟩
    · simp only [State.writeCal_status]; omega
    · exact hTp.trans (decide_eq_decide.mpr (by omega))
    · exact hRh.trans (decide_eq_decide.mpr (by omega))
  | readD2 v f =>
    obtain ⟨rfl, rfl | rfl | rfl | rfl⟩ := hs <;>
      simp_all [progress, freshT, freshP, freshRh, State.keepFirstOrder, BusStep.exchanged, eventList, acqTList]
  | readD1 v c =>
    obtain ⟨rfl, rfl | rfl⟩ := hs <;>
      simp_all [progress, freshT, freshP, freshRh, eventList, acqTList, acqPList]
  | readD3 v =>
    obtain ⟨rfl, rfl⟩ | ⟨rfl, rfl⟩ | ⟨rfl, rfl⟩ := hs <;>
      simp [eventList, acqTList, acqPList, acqRhList] at hlt

/-- An operation that an entry ends has left UNINIT. -/
theorem state_of_done (hp : progress o n s) (hs : e.standsAt o n) (hd : e.Done s m)
    (hend : (eventList o).length ≤ n + 1) : m.status.state ≠ .uninit := by
  by_cases ho : o = .init
  · subst ho
    obtain rfl := eq_resetRh_of_last hs (by simpa [eventList, initList] using hend)
    cases hd with
    | command hc => exact absurd rfl hc
    | resetRh => simp
  · obtain ⟨-, hstate, -⟩ := sameCalibration_done hs ho hd
    rw [hstate, ready_of_progress hp ho]
    decide

/-! ### An entry that ends its phase -/

/-- A phase's error flag is consistent with what its operation has obtained so far. -/
theorem Contents.withError (h : Contents s) (hp : progress o n s) {ph : Phase} (hph : ph.spans o n) :
    Contents { s with status := s.status.withError ph } := by
  cases ph with
  | init =>
    exact { h with
      flags := { h.flags with errInit := ⟨fun _ => rfl, fun _ => rfl⟩ }
      valid := { h.valid with }
      ready := fun hr => by cases hr }
  | acqT =>
    exact { h with
      flags := { h.flags with errT := fun _ => (freshT_of_progress hp hph.1).1 }, valid := { h.valid with } }
  | acqP =>
    obtain ⟨h3, h6, ho⟩ := hph
    have htemp := vTemp_of_progress hp ho h3 h6
    exact { h with
      flags := { h.flags with errP := fun _ => ⟨(freshP_of_progress hp h6).1, htemp⟩ }
      valid := { h.valid with } }
  | acqRh =>
    exact { h with
      flags := { h.flags with errRh := fun _ => (freshRh_of_progress hp).1 }, valid := { h.valid with } }

/-- Only the composites go on after an error (44_composite.md R186, R188). -/
theorem resumeAt_lt_length {ph : Phase} (hph : ph.spans o n) (hlt : resumeAt o ph < (eventList o).length) :
    o = .getTph ∧ (ph = .acqT ∨ ph = .acqP) ∨ o = .getTh ∧ ph = .acqT := by
  cases o <;> cases ph <;>
    simp_all [Phase.spans, resumeAt, eventList, initList, acqTList, acqPList, acqRhList]

/-- A phase that still runs after an error finds its operation as far as it expects. -/
theorem progress_resumeAt (hp : progress o n s) {ph : Phase} (hph : ph.spans o n)
    (hlt : resumeAt o ph < (eventList o).length) :
    progress o (resumeAt o ph) { s with status := s.status.withError ph } := by
  obtain ⟨rfl, hwhich⟩ | ⟨rfl, rfl⟩ := resumeAt_lt_length hph hlt
  · obtain ⟨hstate, hfreshRh, -⟩ := hp
    obtain rfl | rfl := hwhich <;>
    exact ⟨hstate, hfreshRh, fun h => absurd h (by decide), fun h => absurd h (by decide),
      fun h => absurd h (by decide)⟩
  · obtain ⟨hstate, hfreshP, hfreshRh, htemp, -⟩ := hp
    exact ⟨hstate, hfreshP, hfreshRh, htemp, fun h => absurd h (by decide)⟩

/-- After an error the block is READY or FAILED. -/
theorem state_of_withError (hp : progress o n s) {ph : Phase} (hph : ph.spans o n) :
    (s.status.withError ph).state ≠ .uninit := by
  cases ph with
  | init => simp [Status.withError]
  | acqT | acqP | acqRh =>
    have hready : s.status.state = .ready := ready_of_progress hp (by rintro rfl; simp [Phase.spans] at hph)
    simp [Status.withError, hready]

theorem inv_failPhase (h : Contents s) (ho : s.op = some o) (hbusy : s.status.busy = true) (hp : progress o n s)
    {ph : Phase} (hph : ph.spans o n) : Inv (s.failPhase ph) := by
  have hjump : State.jump ph { s with status := s.status.withError ph }
      = { s with status := s.status.withError ph, seq := resumeAt o ph } := by simp [State.jump, ho]
  rw [State.failPhase, hjump]
  refine inv_settle (o := o) ((h.withError hp hph).congr rfl rfl rfl rfl rfl rfl) ho (by simpa) ?_ ?_ ?_
  · cases o <;> cases ph <;> simp [resumeAt]
  · exact fun _ => state_of_withError hp hph
  · exact fun hlt => progress_congr rfl rfl rfl (progress_resumeAt hp hph hlt)

theorem seq_le_of_lt_length (h : n < (eventList o).length) : n + 1 ≤ 16 := by
  cases o <;> simp [eventList, initList, acqTList, acqPList, acqRhList] at h <;> omega

/-- In the invariant the next event stands in the running operation's list, which is as far as it expects. -/
theorem running_of_nextEvent (h : Inv s) (hn : s.nextEvent = some e) :
    ∃ o, s.op = some o ∧ e.standsAt o s.seq ∧ s.seq < (eventList o).length ∧ progress o s.seq s := by
  obtain ⟨hbusy, o, ho, he⟩ := State.nextEvent_eq_some.mp hn
  obtain ⟨hlt, hp⟩ : s.seq < (eventList o).length ∧ progress o s.seq s := by
    simpa [running, ho] using h.busy hbusy
  exact ⟨o, ho, standsAt_of_getElem? he, hlt, hp⟩

/-- Every entry keeps the invariant. -/
theorem inv_runEvent (h : Inv s) (hn : s.nextEvent = some e) (hr : runEvent e s = .next t) : Inv t := by
  obtain ⟨hbusy, -⟩ := State.nextEvent_eq_some.mp hn
  obtain ⟨o, ho, hs, hlt, hp⟩ := running_of_nextEvent h hn
  have hc := Contents.of_inv h
  obtain ⟨m, hd, rfl⟩ | ⟨-, ph, hph, rfl⟩ := runEvent_cases hn hr
  · obtain ⟨hop, hseq, hb⟩ := sequencer_done hd
    have hm := hc.done hp hs hd
    refine inv_settle (o := o) (s := { m with seq := m.seq + 1 }) (hm.congr rfl rfl rfl rfl rfl rfl) (hop.trans ho)
      (hb.trans hbusy) ?_ ?_ ?_ <;> dsimp only <;> rw [hseq]
    · exact seq_le_of_lt_length hlt
    · exact state_of_done hp hs hd
    · exact fun hend => progress_congr rfl rfl rfl (progress_done hp hs ho hd hend)
  · exact inv_failPhase (hc.exchange _) (by simpa [BusStep.exchanged]) (by simpa [BusStep.exchanged])
      (progress_congr (by simp) (by simp) (by simp) hp) (spans_of_standsAt hs hph)

/-! ### The other turns -/

/-- From the invariant a running operation stands at an entry of its list. -/
theorem nextEvent_of_inv (h : Inv s) (hbusy : s.status.busy = true) : ∃ e, s.nextEvent = some e := by
  have hrun := h.busy hbusy
  unfold running at hrun
  cases ho : s.op with
  | none => simp [ho] at hrun
  | some o =>
    simp only [ho] at hrun
    exact ⟨_, State.nextEvent_eq_some.mpr ⟨hbusy, o, ho, List.getElem?_eq_getElem hrun.1⟩⟩

/-- The coming turns and the replies are no part of the invariant. -/
theorem inv_schedule (h : Inv s) (l : List Turn) : Inv { s with schedule := l } :=
  { h with valid := { h.valid with }, busy := fun hb => h.busy hb }

theorem inv_reply (h : Inv s) (r : Reply) : Inv (s.reply r) :=
  { h with valid := { h.valid with }, busy := fun hb => h.busy hb }

theorem inv_raiseFault (h : Inv s) {c : FaultCode} (hc : c ≠ .none) : Inv (s.raiseFault c) :=
  { (Contents.of_inv h).raiseFault hc with uninit := h.uninit, seq := h.seq, busy := fun hb => h.busy hb }

/-! ### Requests -/

/-- STATUS as acceptance leaves it is consistent (10_state.md R29). -/
theorem flags_cleared {st : Status} (hcount : st.calCount ≤ 6) (hfault : st.fault = true ↔ st.faultCode ≠ .none)
    (hstate : st.state ≠ .failed) (b : Bool) : Flags { st.cleared with busy := b } := by
  constructor <;> simp [Status.cleared, hcount, hfault, hstate]

theorem inv_accept (h : Inv s) (hready : s.status.state = .ready) (ho : o ≠ .init) (arg : Option Rat) :
    Inv (s.accept o arg) where
  flags := flags_cleared h.flags.calCount h.flags.fault (by simp [hready]) true
  valid := by constructor <;> rfl
  cal := h.cal
  ready := h.ready
  uninit := fun hu => absurd (hready.symm.trans hu) (by decide)
  seq := by simp
  busy := fun _ => by
    cases o
    case init => exact absurd rfl ho
    all_goals simp [running, progress, hready, eventList, acqTList, acqPList, acqRhList, Status.cleared, freshT,
      freshP, freshRh]

theorem inv_startInit (h : Inv s) : Inv (s.accept .init none).startInit where
  flags := flags_cleared (st := { s.status with state := .uninit, calCount := 0 }) (by simp) h.flags.fault
    (by simp) true
  valid := by constructor <;> rfl
  cal := fun k hk => by
    interval_cases k <;> rfl
  ready := fun hr => by cases hr
  uninit := fun _ hidle => by cases hidle
  seq := by simp
  busy := fun _ => by
    simp [running, progress, eventList, initList, Status.cleared, freshT, freshP, freshRh]

theorem inv_presentRequest (h : Inv s) (r : Request) : ∃ t, presentRequest r s = .next t ∧ Inv t := by
  obtain ⟨c, hc, hr⟩ | ⟨hready, o, arg, ho, hr⟩ | ⟨-, -, hr⟩ := presentRequest_outcome r s
  · exact ⟨_, hr, inv_reply (inv_raiseFault h hc) _⟩
  · exact ⟨_, hr, inv_accept h hready ho arg⟩
  · exact ⟨_, hr, inv_startInit h⟩

theorem inv_hostRead (h : Inv s) (k : Nat) : Inv (s.hostRead k) := by
  obtain ⟨v, -, hr⟩ | ⟨-, hr⟩ := State.hostRead_cases k s <;> rw [hr]
  · exact inv_reply h _
  · exact inv_reply (inv_raiseFault h (by decide)) _

theorem inv_blockReset (s : State) : Inv s.blockReset where
  flags := by constructor <;> simp [State.blockReset, State.resetWith, Status.reset]
  valid := by constructor <;> rfl
  cal := fun k hk => by interval_cases k <;> rfl
  ready := fun hr => by cases hr
  uninit := fun _ _ => ⟨rfl, rfl, rfl⟩
  seq := by simp [State.blockReset, State.resetWith]
  busy := fun hb => by cases hb

/-- Settles O48: the reset state is what a block reset leaves. -/
theorem invariantHoldsAtReset : Obligations.InvariantHoldsAtReset := inv_blockReset State.reset

/-! ### No stop -/

/-- A READY block has its whole calibration file. -/
theorem exists_cal_of_ready (h : Inv s) (hready : s.status.state = .ready) {k : Nat} (hk : k < 6) :
    ∃ v, s.cal.get k = some v := by
  obtain ⟨hcount, -, -⟩ := h.ready hready
  have hsome := h.cal k hk
  rw [hcount, decide_eq_true hk] at hsome
  exact Option.isSome_iff_exists.mp hsome

theorem readD2_answers (h : Inv s) (hready : s.status.state = .ready) : ∃ t, readD2 s = .next t := by
  obtain ⟨c4, h4 : s.cal.c4 = some c4⟩ := exists_cal_of_ready h hready (k := 4) (by decide)
  obtain ⟨c5, h5 : s.cal.c5 = some c5⟩ := exists_cal_of_ready h hready (k := 5) (by decide)
  unfold readD2
  cases answer24 s.answer <;> simp [calFirstOrder, h4, h5]

theorem readD1_answers (h : Inv s) (hready : s.status.state = .ready) (htemp : s.status.vTemp = true) :
    ∃ t, readD1 s = .next t := by
  obtain ⟨c0, h0 : s.cal.c0 = some c0⟩ := exists_cal_of_ready h hready (k := 0) (by decide)
  obtain ⟨c1, h1 : s.cal.c1 = some c1⟩ := exists_cal_of_ready h hready (k := 1) (by decide)
  obtain ⟨c2, h2 : s.cal.c2 = some c2⟩ := exists_cal_of_ready h hready (k := 2) (by decide)
  obtain ⟨c3, h3 : s.cal.c3 = some c3⟩ := exists_cal_of_ready h hready (k := 3) (by decide)
  obtain ⟨dt, hdt⟩ := Option.isSome_iff_exists.mp (h.valid.dt.trans (h.flags.dtTemp.trans htemp))
  obtain ⟨temp, ht⟩ := Option.isSome_iff_exists.mp (h.valid.temp.trans htemp)
  unfold readD1
  cases answer24 s.answer <;> simp [calCompensate, h0, h1, h2, h3, hdt, ht]

/-- From the invariant a running operation's next event answers: its command byte stands at its place, and its
conversion's operands hold values. -/
theorem runEvent_answers (h : Inv s) (hn : s.nextEvent = some e) : ∃ t, runEvent e s = .next t := by
  obtain ⟨o, ho, hs, hlt, hp⟩ := running_of_nextEvent h hn
  cases e with
  | command c => exact ⟨_, runCommand_of_nextEvent hn⟩
  | readD2 =>
    obtain ⟨-, hop⟩ := hs
    exact readD2_answers h (ready_of_progress hp (by rintro rfl; simp at hop))
  | readD1 =>
    obtain ⟨hseq, hop⟩ := hs
    exact readD1_answers h (ready_of_progress hp (by rintro rfl; simp at hop))
      (vTemp_of_progress hp hop (by omega) (by omega))
  | openDevice | waitConversion | readCal | readD3 => exact ⟨_, rfl⟩

/-- From the invariant a running operation answers a state of the invariant. -/
theorem inv_runOperation (h : Inv s) (hbusy : s.status.busy = true) : ∃ t, runOperation s = .next t ∧ Inv t := by
  obtain ⟨e, hn⟩ := nextEvent_of_inv h hbusy
  obtain ⟨t, ht⟩ := runEvent_answers h hn
  exact ⟨t, (runOperation_of_nextEvent hn).trans ht, inv_runEvent h hn ht⟩

/-! ### Every step -/

theorem inv_controllerTurn (h : Inv s) : ∃ t, controllerTurn s = .next t ∧ Inv t := by
  obtain ⟨-, hr⟩ | ⟨hbusy, hr⟩ := controllerTurn_cases s
  · exact ⟨s, hr, h⟩
  · rw [hr]
    exact inv_runOperation h hbusy

/-- From the invariant every step answers a next state, which meets the invariant. -/
theorem inv_step (h : Inv s) : ∃ t, step s = .next t ∧ Inv t := by
  obtain ⟨-, hr⟩ | ⟨r, rest, -, hr⟩ | ⟨k, rest, -, hr⟩ | ⟨rest, -, hr⟩ | ⟨rest, -, hbusy, hr⟩ | ⟨rest, -, -, hr⟩ |
    ⟨rest, -, hr⟩ := step_cases s <;> rw [hr]
  · exact inv_controllerTurn h
  · exact inv_presentRequest (inv_schedule h rest) r
  · exact ⟨_, rfl, inv_hostRead (inv_schedule h rest) k⟩
  · exact inv_controllerTurn (inv_schedule h rest)
  · exact inv_runOperation h hbusy
  · exact ⟨_, rfl, inv_schedule h rest⟩
  · exact ⟨_, rfl, inv_blockReset _⟩

/-- Settles O49, by one lemma per turn; a running operation by one lemma per entry of its list. -/
theorem stepKeepsTheInvariant : Obligations.StepKeepsTheInvariant := by
  intro s t h hstep
  obtain ⟨t', ht', hinv⟩ := inv_step h
  obtain rfl := Host.Outcome.next.inj (hstep.symm.trans ht')
  exact hinv

/-- Settles O50, by the same lemmas: each turn answers a state. -/
theorem stepFromTheInvariantNeverStops : Obligations.StepFromTheInvariantNeverStops := by
  intro s h
  obtain ⟨t, ht, -⟩ := inv_step h
  exact ⟨t, ht⟩

end Sys2Proof.Machine
end

section
/-! Who writes the calibration file, `STATE` and the handles (10_state.md R22, R25, R34). -/

namespace Sys2Proof.Machine

variable {s t m : State} {o : Op} {n : Nat} {e : BusStep}

theorem SameCalibration.trans (h : SameCalibration s m) (h' : SameCalibration m t) : SameCalibration s t := by
  obtain ⟨hcal, hstate, hTp, hRh, hcount⟩ := h
  obtain ⟨hcal', hstate', hTp', hRh', hcount'⟩ := h'
  exact ⟨hcal'.trans hcal, hstate'.trans hstate, hTp'.trans hTp, hRh'.trans hRh, hcount'.trans hcount⟩

theorem sameCalibration_advance (s : State) : SameCalibration s s.advance := by simp [SameCalibration]

theorem sameCalibration_failed (hs : e.standsAt o n) (ho : o ≠ .init) (hf : e.Failed s t) : SameCalibration s t := by
  obtain ⟨-, ph, hph, rfl⟩ := hf
  have hspan := spans_of_standsAt hs hph
  cases ph with
  | init => exact absurd hspan ho
  | acqT | acqP | acqRh => simp [SameCalibration, BusStep.exchanged, State.failPhase, Status.withError]

/-- No entry of a measurement writes what INIT alone writes. -/
theorem sameCalibration_runEvent (hn : s.nextEvent = some e) (ho : s.op ≠ some .init) (h : runEvent e s = .next t) :
    SameCalibration s t := by
  obtain ⟨-, o, hop, he⟩ := State.nextEvent_eq_some.mp hn
  have hs := standsAt_of_getElem? he
  have hmeas : o ≠ .init := fun hinit => ho (hinit ▸ hop)
  obtain ⟨m, hd, rfl⟩ | hf := runEvent_cases hn h
  · exact (sameCalibration_done hs hmeas hd).trans (sameCalibration_advance m)
  · exact sameCalibration_failed hs hmeas hf

theorem sameCalibration_runOperation (hbusy : s.status.busy = true) (ho : s.op ≠ some .init)
    (h : runOperation s = .next t) : SameCalibration s t := by
  cases hop : s.op with
  | none => simp [runOperation, hop] at h
  | some o =>
    cases he : (eventList o)[s.seq]? with
    | none =>
      rw [runOperation_of_op hop, he] at h
      obtain rfl := Host.Outcome.next.inj h
      exact ⟨rfl, rfl, rfl, rfl, rfl⟩
    | some e =>
      have hn := State.nextEvent_eq_some.mpr ⟨hbusy, o, hop, he⟩
      exact sameCalibration_runEvent hn ho (runOperation_of_nextEvent hn ▸ h)

theorem sameCalibration_hostRead (s : State) (k : Nat) : SameCalibration s (s.hostRead k) := by
  obtain ⟨v, -, hr⟩ | ⟨-, hr⟩ := State.hostRead_cases k s <;> rw [hr] <;> exact ⟨rfl, rfl, rfl, rfl, rfl⟩

theorem sameCalibration_controllerTurn (h : controllerTurn s = .next t) :
    SameCalibration s t ∨ (s.status.busy = true ∧ s.op = some .init) := by
  obtain ⟨-, hr⟩ | ⟨hbusy, hr⟩ := controllerTurn_cases s
  · obtain rfl := Host.Outcome.next.inj (hr.symm.trans h)
    exact .inl ⟨rfl, rfl, rfl, rfl, rfl⟩
  · by_cases ho : s.op = some .init
    · exact .inr ⟨hbusy, ho⟩
    · exact .inl (sameCalibration_runOperation hbusy ho (hr.symm.trans h))

theorem sameCalibration_presentRequest {r : Request} (h : presentRequest r s = .next t) :
    SameCalibration s t ∨ (s.status.busy = false ∧ decodeRequest r = .instr .init) := by
  obtain ⟨c, -, hr⟩ | ⟨-, o, arg, -, hr⟩ | ⟨hidle, hinit, -⟩ := presentRequest_outcome r s
  · obtain rfl := Host.Outcome.next.inj (hr.symm.trans h)
    exact .inl ⟨rfl, rfl, rfl, rfl, rfl⟩
  · obtain rfl := Host.Outcome.next.inj (hr.symm.trans h)
    exact .inl ⟨rfl, rfl, rfl, rfl, rfl⟩
  · exact .inr ⟨hidle, hinit⟩

/-- Settles O53, turn by turn. -/
theorem onlyInitWritesCalibrationStateAndHandles : Obligations.OnlyInitWritesCalibrationStateAndHandles := by
  intro s t h
  show SameCalibration s t ∨ _
  obtain ⟨-, hr⟩ | ⟨r, rest, hs, hr⟩ | ⟨k, rest, -, hr⟩ | ⟨rest, -, hr⟩ | ⟨rest, hs, hbusy, hr⟩ | ⟨rest, -, -, hr⟩ |
    ⟨rest, hs, -⟩ := step_cases s
  · exact (sameCalibration_controllerTurn (hr.symm.trans h)).imp_right .inl
  · obtain hsame | hinit := sameCalibration_presentRequest (hr.symm.trans h)
    · exact .inl hsame
    · exact .inr (.inr (.inl ⟨hinit.1, r, by simp [hs], hinit.2⟩))
  · obtain rfl := Host.Outcome.next.inj (hr.symm.trans h)
    exact .inl (sameCalibration_hostRead { s with schedule := rest } k)
  · exact (sameCalibration_controllerTurn (hr.symm.trans h)).imp_right .inl
  · by_cases ho : s.op = some .init
    · exact .inr (.inl ⟨hbusy, ho⟩)
    · exact .inl (sameCalibration_runOperation hbusy ho (hr.symm.trans h))
  · obtain rfl := Host.Outcome.next.inj (hr.symm.trans h)
    exact .inl ⟨rfl, rfl, rfl, rfl, rfl⟩
  · exact .inr (.inr (.inr (by simp [hs])))

end Sys2Proof.Machine
end

section
/-! What a measurement reads (10_state.md R40): a step commutes with setting everything else to fixed values. -/

namespace Sys2Proof.Machine

/-- The state with everything that no measurement reads at a fixed value: the configuration, the handles, the recorded
faults, `CAL_COUNT`, the history and the replies. -/
def State.masked (s : State) : State :=
  { s with
    status := { s.status with fault := false, faultCode := .none, calCount := 0 }
    hTp := false, hRh := false, cfg := Config.default, history := [], replies := [] }

/-- The masked state of an outcome. -/
def maskedOutcome : Result → Result
  | .next s => .next s.masked
  | .fault f => .fault f
  | .refused r => .refused r

variable {s : State}

/-! ### The shared operations -/

@[simp] theorem State.masked_answer : s.masked.answer = s.answer := rfl
@[simp] theorem State.masked_op : s.masked.op = s.op := rfl
@[simp] theorem State.masked_seq : s.masked.seq = s.seq := rfl
@[simp] theorem State.masked_cal : s.masked.cal = s.cal := rfl
@[simp] theorem State.masked_res : s.masked.res = s.res := rfl
@[simp] theorem State.masked_busy : s.masked.status.busy = s.status.busy := rfl
@[simp] theorem State.masked_state : s.masked.status.state = s.status.state := rfl
@[simp] theorem State.masked_schedule : s.masked.schedule = s.schedule := rfl
@[simp] theorem State.masked_correctingTemperature : correctingTemperature s.masked = correctingTemperature s := rfl
@[simp] theorem State.masked_nextEvent : s.masked.nextEvent = s.nextEvent := rfl
@[simp] theorem State.masked_masked : s.masked.masked = s.masked := rfl

theorem State.masked_consume : s.consume.masked = s.masked.consume := by
  cases h : s.script <;> simp [State.consume, h, State.masked]

/-- Masked, an exchange with the bus agent is the use of an answer, whatever event was answered. -/
@[simp] theorem State.masked_exchange (ev : BusEvent) : (s.exchange ev).masked = s.masked.consume := by
  rw [← State.masked_consume]
  rfl

@[simp] theorem State.masked_record (ev : BusEvent) (a : BusAnswer) : (s.record ev a).masked = s.masked := rfl

@[simp] theorem State.masked_complete : s.complete.masked = s.masked.complete := rfl

@[simp] theorem State.masked_settle : s.settle.masked = s.masked.settle := by
  unfold State.settle
  rw [State.masked_op, State.masked_seq]
  cases s.op with
  | none => rfl
  | some o => by_cases h : (eventList o).length ≤ s.seq <;> simp [h]

@[simp] theorem State.masked_advance : s.advance.masked = s.masked.advance := State.masked_settle

theorem State.masked_jump (ph : Phase) : (s.jump ph).masked = s.masked.jump ph := by
  unfold State.jump
  rw [State.masked_op]
  cases s.op <;> rfl

theorem State.masked_noteError (ph : Phase) : (s.noteError ph).masked = s.masked.noteError ph := by cases ph <;> rfl

@[simp] theorem State.masked_failPhase (ph : Phase) : (s.failPhase ph).masked = s.masked.failPhase ph :=
  calc (s.failPhase ph).masked
      = State.settle ((s.noteError ph).masked.jump ph) := by rw [← State.masked_jump, ← State.masked_settle]; rfl
    _ = s.masked.failPhase ph := by rw [State.masked_noteError]; rfl

@[simp] theorem State.masked_reply (r : Reply) : (s.reply r).masked = s.masked := rfl
@[simp] theorem State.masked_raiseFault (c : FaultCode) : (s.raiseFault c).masked = s.masked := rfl
@[simp] theorem State.masked_refuse (c : FaultCode) : (s.refuse c).masked = s.masked := rfl
@[simp] theorem State.masked_setHandle (d : Device) : (s.setHandle d).masked = s.masked := by cases d <;> rfl
@[simp] theorem State.masked_setReady : s.setReady.masked = s.masked.setReady := rfl
@[simp] theorem State.masked_writeCal (k : Nat) (v : Word16) :
    (s.writeCal k v).masked = { s.masked with cal := s.cal.set k v } := rfl
@[simp] theorem State.masked_writeD2 (v : Word24) : (s.writeD2 v).masked = s.masked.writeD2 v := rfl
@[simp] theorem State.masked_writeD1 (v : Word24) : (s.writeD1 v).masked = s.masked.writeD1 v := rfl
@[simp] theorem State.masked_writeD3 (v : Word16) : (s.writeD3 v).masked = s.masked.writeD3 v := rfl
@[simp] theorem State.masked_writeRh (v : Rat) : (s.writeRh v).masked = s.masked.writeRh v := rfl
@[simp] theorem State.masked_writeCompensated (c : Compensated) :
    (s.writeCompensated c).masked = s.masked.writeCompensated c := rfl
@[simp] theorem State.masked_keepFirstOrder (f : FirstOrder) :
    (s.keepFirstOrder f).masked = s.masked.keepFirstOrder f := by
  unfold State.keepFirstOrder
  rw [State.masked_op]
  split <;> rfl

/-! ### The entries of an event list -/

theorem State.masked_openDevice (d : Device) : (s.openDevice d).masked = (s.masked.openDevice d).masked := by
  unfold State.openDevice
  rw [State.masked_answer]
  cases answerOk 0 s.answer <;> simp

theorem State.masked_issueCommand (d : Device) (c : Byte) (ph : Phase) :
    (s.issueCommand d c ph).masked = (s.masked.issueCommand d c ph).masked := by
  unfold State.issueCommand
  rw [State.masked_answer]
  cases answerOk 0 s.answer <;> simp

theorem State.masked_issueResetRh : s.issueResetRh.masked = s.masked.issueResetRh.masked := by
  unfold State.issueResetRh
  rw [State.masked_answer]
  cases answerOk 0 s.answer <;> simp

theorem State.masked_waitConversion : s.waitConversion.masked = s.masked.waitConversion.masked := by
  simp [State.waitConversion]

theorem State.masked_readCal (k : Nat) : (s.readCal k).masked = (s.masked.readCal k).masked := by
  unfold State.readCal
  rw [State.masked_answer]
  cases answer16 s.answer <;> simp

theorem State.masked_readD3 : s.readD3.masked = s.masked.readD3.masked := by
  unfold State.readD3
  rw [State.masked_answer]
  cases answer16 s.answer <;> simp

theorem State.masked_hostRead (k : Nat) : (s.hostRead k).masked = (s.masked.hostRead k).masked := by
  have hread : ∀ r : State, (r.hostRead k).masked = r.masked := fun r => by
    obtain ⟨v, -, hr⟩ | ⟨-, hr⟩ := State.hostRead_cases k r <;> simp [hr]
  simp [hread]

theorem maskedOutcome_readD2 (s : State) : maskedOutcome (readD2 s) = maskedOutcome (readD2 s.masked) := by
  unfold readD2
  rw [State.masked_answer, State.masked_cal]
  cases answer24 s.answer with
  | none => simp [maskedOutcome]
  | some v => cases h : calFirstOrder s.cal v <;> simp [h, maskedOutcome]

theorem maskedOutcome_readD1 (s : State) : maskedOutcome (readD1 s) = maskedOutcome (readD1 s.masked) := by
  unfold readD1
  rw [State.masked_answer, State.masked_cal, State.masked_res]
  cases answer24 s.answer with
  | none => simp [maskedOutcome]
  | some v => cases h : calCompensate s.cal s.res v <;> simp [h, maskedOutcome]

theorem maskedOutcome_runCommand {c : Byte} (h : s.nextEvent = some (.command c)) :
    maskedOutcome (runCommand c s) = maskedOutcome (runCommand c s.masked) := by
  rw [runCommand_of_nextEvent h, runCommand_of_nextEvent (s := s.masked) h]
  by_cases hc : c = 0xFE#8
  · simp only [if_pos hc, maskedOutcome, State.masked_issueResetRh (s := s)]
  · simp only [if_neg hc, maskedOutcome, State.masked_issueCommand (s := s)]

theorem maskedOutcome_runEvent {e : BusStep} (h : s.nextEvent = some e) :
    maskedOutcome (runEvent e s) = maskedOutcome (runEvent e s.masked) := by
  cases e with
  | openDevice d => exact congrArg Host.Outcome.next (State.masked_openDevice d)
  | command c => exact maskedOutcome_runCommand h
  | waitConversion => exact congrArg Host.Outcome.next State.masked_waitConversion
  | readCal k => exact congrArg Host.Outcome.next (State.masked_readCal k)
  | readD2 => exact maskedOutcome_readD2 s
  | readD1 => exact maskedOutcome_readD1 s
  | readD3 => exact congrArg Host.Outcome.next State.masked_readD3

/-! ### Whole runs -/

/-- The controller's turn commutes with masking. -/
theorem maskedOutcome_controllerTurn (s : State) :
    maskedOutcome (controllerTurn s) = maskedOutcome (controllerTurn s.masked) := by
  unfold controllerTurn
  rw [State.masked_busy]
  cases hbusy : s.status.busy with
  | false => rfl
  | true =>
    cases ho : s.op with
    | none => simp [runOperation, ho, maskedOutcome]
    | some o =>
      cases he : (eventList o)[s.seq]? with
      | none => simp [runOperation, ho, he, maskedOutcome]
      | some e =>
        have hn := State.nextEvent_eq_some.mpr ⟨hbusy, o, ho, he⟩
        simpa [runOperation_of_nextEvent hn, runOperation_of_nextEvent (s := s.masked) hn] using
          maskedOutcome_runEvent hn

theorem maskedOutcome_admitMeasurement (o : Op) (arg : Option Rat) (s : State) :
    maskedOutcome (.next (admitMeasurement o arg s)) = maskedOutcome (.next (admitMeasurement o arg s.masked)) := by
  unfold admitMeasurement
  rw [State.masked_busy, State.masked_state]
  split_ifs <;> rfl

theorem maskedOutcome_execInit (s : State) : maskedOutcome (execInit s) = maskedOutcome (execInit s.masked) := by
  unfold execInit
  rw [State.masked_busy]
  split_ifs <;> rfl

theorem maskedOutcome_presentRequest (r : Request) (s : State) :
    maskedOutcome (presentRequest r s) = maskedOutcome (presentRequest r s.masked) := by
  unfold presentRequest
  rw [State.masked_busy]
  cases s.status.busy with
  | true => rfl
  | false =>
    cases hd : decodeRequest r with
    | illegal => rfl
    | instr i =>
      obtain rfl | ⟨⟨o, arg⟩, hi⟩ := decodeRequest_cases hd
      · exact maskedOutcome_execInit s
      · obtain ⟨hexec, -⟩ := exec_measurement hi s
        obtain ⟨hexec', -⟩ := exec_measurement hi s.masked
        simpa [hexec, hexec'] using maskedOutcome_admitMeasurement o arg s

/-- Every step commutes with masking: nothing that the mask hides reaches what it leaves open. -/
theorem maskedOutcome_step (s : State) : maskedOutcome (step s) = maskedOutcome (step s.masked) := by
  unfold step takeTurn
  rw [State.masked_schedule, State.masked_busy]
  cases s.schedule with
  | nil => exact maskedOutcome_controllerTurn s
  | cons turn rest =>
    cases turn with
    | request r => exact maskedOutcome_presentRequest r { s with schedule := rest }
    | read k => exact congrArg Host.Outcome.next (State.masked_hostRead k)
    | controller => exact maskedOutcome_controllerTurn { s with schedule := rest }
    | await =>
      cases hbusy : s.status.busy with
      | false => rfl
      | true => simpa [controllerTurn, hbusy] using maskedOutcome_controllerTurn s
    | blockReset => rfl

/-- A run that answers has a first step that answers. -/
theorem runSteps_succ_eq_next {n : Nat} {u : State} :
    runSteps (n + 1) s = .next u ↔ ∃ t, step s = .next t ∧ runSteps n t = .next u := by
  cases h : step s <;> simp [runSteps, h]

/-- Two runs of one length from states that agree under the mask end in states that agree under it. -/
theorem masked_runSteps {n : Nat} {s' u u' : State} (hm : s.masked = s'.masked) (hu : runSteps n s = .next u)
    (hu' : runSteps n s' = .next u') : u.masked = u'.masked := by
  induction n generalizing s s' with
  | zero =>
    obtain rfl := Host.Outcome.next.inj hu
    obtain rfl := Host.Outcome.next.inj hu'
    exact hm
  | succ n ih =>
    obtain ⟨t, ht, hu⟩ := runSteps_succ_eq_next.mp hu
    obtain ⟨t', ht', hu'⟩ := runSteps_succ_eq_next.mp hu'
    have hstep : maskedOutcome (.next t) = maskedOutcome (.next t') := by
      rw [← ht, ← ht', maskedOutcome_step s, maskedOutcome_step s', hm]
    exact ih (Host.Outcome.next.inj hstep) hu hu'

/-- Settles O60: the accepted blocks agree under the mask, every step keeps that, and the outputs are not masked. -/
theorem outputsDependOnlyOnCalibrationAnswersAndOperand :
    Obligations.OutputsDependOnlyOnCalibrationAnswersAndOperand := by
  intro s s' t t' u u' i o arg hi hidle hidle' hready hready' hs hs' hcal hscript hdraws ht ht' hu hu'
  have haccept : ∀ r : State, r.status.busy = false → r.status.state = .ready → exec i r = .next (r.accept o arg) := by
    intro r hb hr
    rw [(exec_measurement hi r).1]
    simp [admitMeasurement, hb, hr]
  obtain rfl := Host.Outcome.next.inj ((haccept s hidle hready).symm.trans ht)
  obtain rfl := Host.Outcome.next.inj ((haccept s' hidle' hready').symm.trans ht')
  have hm : (s.accept o arg).masked = (s'.accept o arg).masked := by
    simp [State.masked, State.accept, State.reply, Status.cleared, *]
  have hmasked := masked_runSteps hm hu hu'
  have hfield {α : Type} (f : State → α) : f u.masked = f u'.masked := congrArg f hmasked
  exact ⟨hfield State.raw, hfield State.res, hfield (·.status.regime), hfield (·.status.vT), hfield (·.status.vTemp),
    hfield (·.status.vDt), hfield (·.status.vP), hfield (·.status.vRh), hfield (·.status.vD2),
    hfield (·.status.vD1), hfield (·.status.vD3)⟩

end Sys2Proof.Machine
end

section
/-! The host register map (20_memory.md R58): what each index reads through its valid bit, and which indices it leaves
out. -/

namespace Sys2Proof.Machine

variable {s : State}

/-! ### A register's value as a read returns it -/

theorem ofWord16_eq_getD (r : Option Word16) : ofWord16 r = (r.map RegValue.word16).getD .absent := by cases r <;> rfl
theorem ofWord24_eq_getD (r : Option Word24) : ofWord24 r = (r.map RegValue.word24).getD .absent := by cases r <;> rfl
theorem ofInt_eq_getD (r : Option Int) : ofInt r = (r.map RegValue.int).getD .absent := by cases r <;> rfl
theorem ofRat_eq_getD (r : Option Rat) : ofRat r = (r.map RegValue.rat).getD .absent := by cases r <;> rfl

/-- An index that the map gates reads as the claims say (10_state.md R39). -/
theorem readsAs_of_gated {k : Nat} {valid : Bool} {v : RegValue} {held : Option RegValue}
    (hread : readRegister s k = some (gated valid v)) (hv : v = held.getD .absent) :
    Claims.readsAs s k valid held := by
  subst hv
  refine ⟨fun hinvalid => ?_, fun v hvalid hheld => ?_⟩
  · simp [hread, gated, hinvalid]
  · simp [hread, gated, hvalid, hheld]

/-! ### The indices -/

/-- The calibration registers stand at the indices from 1 on, valid up to `CAL_COUNT`. -/
theorem readRegister_cal (s : State) {k : Nat} (hk : k < 6) :
    readRegister s (1 + k) = some (gated (decide (k < s.status.calCount)) (ofWord16 (s.cal.get k))) := by
  interval_cases k <;> rfl

theorem indexListed_eq_false_iff {k : Nat} :
    indexListed k = false ↔
      k = 0x07 ∨ (0x0B ≤ k ∧ k ≤ 0x0F) ∨ (0x15 ≤ k ∧ k ≤ 0x17) ∨ k = 0x1E ∨ k = 0x1F ∨ 0x20 ≤ k := by
  simp only [indexListed, reservedIndices, Bool.and_eq_false_iff, decide_eq_false_iff_not, Bool.not_eq_false',
    List.contains_iff_mem, List.mem_cons, List.not_mem_nil, or_false]
  omega

/-- The register map reads every index but those that it leaves out. -/
theorem readRegister_eq_none_iff {k : Nat} : readRegister s k = none ↔ indexListed k = false := by
  refine ⟨fun h => ?_, readRegister_unlisted s⟩
  unfold readRegister at h
  split at h
  case h_22 =>
    simp only [imp_false] at *
    rw [indexListed_eq_false_iff]
    omega
  all_goals cases h

/-- Settles O46, index by index of the register map. -/
theorem hostRegisterMap : Obligations.HostRegisterMap := by
  intro s
  have hillegal : ∀ k, readRegister s k = none → (s.hostRead k).status.fault = true
      ∧ (s.status.fault = false → (s.hostRead k).status.faultCode = .illegal) := by
    intro k hk
    rw [State.hostRead_of_none hk]
    exact ⟨rfl, fun hfault => by simp [State.raiseFault, Status.withFault, hfault]⟩
  exact ⟨rfl,
    fun k hk => readsAs_of_gated (readRegister_cal s hk) (ofWord16_eq_getD _),
    readsAs_of_gated rfl (ofWord24_eq_getD _),
    readsAs_of_gated rfl (ofWord24_eq_getD _),
    readsAs_of_gated rfl (ofWord16_eq_getD _),
    readsAs_of_gated rfl (ofInt_eq_getD _),
    readsAs_of_gated rfl (ofRat_eq_getD _),
    readsAs_of_gated rfl (ofRat_eq_getD _),
    readsAs_of_gated rfl (ofRat_eq_getD _),
    readsAs_of_gated rfl (ofRat_eq_getD _),
    readsAs_of_gated rfl (ofRat_eq_getD _),
    readsAs_of_gated rfl (ofRat_eq_getD _),
    readsAs_of_gated rfl (ofRat_eq_getD _),
    readsAs_of_gated rfl (ofRat_eq_getD _),
    readsAs_of_gated rfl (ofRat_eq_getD _),
    readsAs_of_gated rfl (ofRat_eq_getD _),
    fun _ => readRegister_eq_none_iff.trans indexListed_eq_false_iff,
    hillegal⟩

end Sys2Proof.Machine
end

section
/-! The bus traffic (20_memory.md R50, R51, R60): what a step adds to the history is the event of the list's entry at
`seq`, and every entry of the lists stands for a legal event. -/

namespace Sys2Proof.Machine

open Safety

variable {s t m : State} {o : Op} {n : Nat} {e : BusStep}

/-! ### What a step adds to the history -/

/-- From `s` to `t` the block has issued the event of the entry `e` and no other. -/
def BusStep.Issued (s : State) (e : BusStep) (t : State) : Prop :=
  t.cfg = s.cfg ∧ ∃ a, t.history = s.history ++ [{ event := Claims.eventOf s.cfg e, answer := a }]

/-- From `s` to `t` the block has issued no event, or the next one of its running operation. -/
def IssuesNextEvent (s t : State) : Prop :=
  (t.cfg = s.cfg ∧ t.history = s.history) ∨ ∃ e, s.nextEvent = some e ∧ e.Issued s t

theorem issued_done (hd : e.Done s m) : e.Issued s m := by
  cases hd with
  | waitConversion => exact ⟨rfl, .ok [], rfl⟩
  | openDevice | command | resetRh | readCal | readD2 | readD1 | readD3 =>
    exact ⟨by simp [BusStep.exchanged], s.answer, by simp [BusStep.exchanged]⟩

theorem issued_failed (hf : e.Failed s t) : e.Issued s t := by
  obtain ⟨-, ph, -, rfl⟩ := hf
  exact ⟨by simp [BusStep.exchanged], s.answer, by simp [BusStep.exchanged]⟩

theorem issuesNextEvent_runEvent (hn : s.nextEvent = some e) (h : runEvent e s = .next t) : IssuesNextEvent s t := by
  obtain ⟨m, hd, rfl⟩ | hf := runEvent_cases hn h
  · exact .inr ⟨e, hn, by simpa [BusStep.Issued] using issued_done hd⟩
  · exact .inr ⟨e, hn, issued_failed hf⟩

theorem issuesNextEvent_runOperation (hbusy : s.status.busy = true) (h : runOperation s = .next t) :
    IssuesNextEvent s t := by
  cases hop : s.op with
  | none => simp [runOperation, hop] at h
  | some o =>
    cases he : (eventList o)[s.seq]? with
    | none =>
      rw [runOperation_of_op hop, he] at h
      obtain rfl := Host.Outcome.next.inj h
      exact .inl ⟨rfl, rfl⟩
    | some e =>
      have hn := State.nextEvent_eq_some.mpr ⟨hbusy, o, hop, he⟩
      exact issuesNextEvent_runEvent hn (runOperation_of_nextEvent hn ▸ h)

theorem issuesNextEvent_controllerTurn (h : controllerTurn s = .next t) : IssuesNextEvent s t := by
  obtain ⟨-, hr⟩ | ⟨hbusy, hr⟩ := controllerTurn_cases s
  · obtain rfl := Host.Outcome.next.inj (hr.symm.trans h)
    exact .inl ⟨rfl, rfl⟩
  · exact issuesNextEvent_runOperation hbusy (hr.symm.trans h)

theorem issuesNextEvent_presentRequest {r : Request} (h : presentRequest r s = .next t) : IssuesNextEvent s t := by
  obtain ⟨c, -, hr⟩ | ⟨-, o, arg, -, hr⟩ | ⟨-, -, hr⟩ := presentRequest_outcome r s <;>
  · obtain rfl := Host.Outcome.next.inj (hr.symm.trans h)
    exact .inl ⟨rfl, rfl⟩

theorem issuesNextEvent_hostRead (s : State) (k : Nat) : IssuesNextEvent s (s.hostRead k) := by
  obtain ⟨v, -, hr⟩ | ⟨-, hr⟩ := State.hostRead_cases k s <;> rw [hr] <;> exact .inl ⟨rfl, rfl⟩

/-- Every step issues the running operation's next event, or none: only the controller's moves reach the bus. -/
theorem issuesNextEvent_step (h : step s = .next t) : IssuesNextEvent s t := by
  obtain ⟨-, hr⟩ | ⟨r, rest, -, hr⟩ | ⟨k, rest, -, hr⟩ | ⟨rest, -, hr⟩ | ⟨rest, -, hbusy, hr⟩ | ⟨rest, -, -, hr⟩ |
    ⟨rest, -, hr⟩ := step_cases s
  · exact issuesNextEvent_controllerTurn (hr.symm.trans h)
  · exact issuesNextEvent_presentRequest (s := { s with schedule := rest }) (hr.symm.trans h)
  · obtain rfl := Host.Outcome.next.inj (hr.symm.trans h)
    exact issuesNextEvent_hostRead { s with schedule := rest } k
  · exact issuesNextEvent_controllerTurn (s := { s with schedule := rest }) (hr.symm.trans h)
  · exact issuesNextEvent_runOperation hbusy (hr.symm.trans h)
  · obtain rfl := Host.Outcome.next.inj (hr.symm.trans h)
    exact .inl ⟨rfl, rfl⟩
  · obtain rfl := Host.Outcome.next.inj (hr.symm.trans h)
    exact .inl ⟨rfl, rfl⟩

/-! ### The event lists are legal -/

/-- Every entry of an event list stands for a legal bus event (20_memory.md R50, R56; 30_encoding.md R71, R73). -/
theorem legalEvent_eventOf (he : (eventList o)[n]? = some e) (cfg : Config) :
    legalEvent cfg (Claims.eventOf cfg e) := by
  cases e with
  | openDevice d =>
    rw [eventOf_openDevice]
    cases d
    · exact .inl rfl
    · exact .inr rfl
  | command c =>
    rw [eventOf_command]
    exact ⟨eventList_command he, rfl⟩
  | waitConversion => exact rfl
  | readCal k => exact ⟨rfl, .inl rfl⟩
  | readD2 | readD1 => exact ⟨rfl, rfl⟩
  | readD3 => exact ⟨rfl, .inr rfl⟩

/-- Settles O51: a step adds at most the next entry's event, which is legal, and the configuration stays. -/
theorem stepKeepsTheHistoryLegal : Obligations.StepKeepsTheHistoryLegal := by
  intro s t hlegal h r hr
  obtain ⟨hcfg, hhist⟩ | ⟨e, hn, hcfg, a, hhist⟩ := issuesNextEvent_step h <;> rw [hcfg]
  · exact hlegal r (hhist ▸ hr)
  · rw [hhist, List.mem_append, List.mem_singleton] at hr
    obtain hold | rfl := hr
    · exact hlegal r hold
    · obtain ⟨-, o, -, he⟩ := State.nextEvent_eq_some.mp hn
      exact legalEvent_eventOf he s.cfg

/-- Settles O52: a step adds at most the next entry's event, and an idle block has none. -/
theorem oneBusEventAStep : Obligations.OneBusEventAStep := by
  intro s t h
  obtain ⟨hcfg, hhist⟩ | ⟨e, hn, hcfg, a, hhist⟩ := issuesNextEvent_step h
  · exact ⟨hcfg, [], by simpa using hhist, by simp, fun _ => rfl⟩
  · refine ⟨hcfg, _, hhist, by simp, fun hidle => ?_⟩
    obtain ⟨hbusy, -⟩ := State.nextEvent_eq_some.mp hn
    simp [hidle] at hbusy

end Sys2Proof.Machine
end

section
/-! The two encoding domains (30_encoding.md R70): request words by their fields (R74 to R77), the eleven command bytes
(R71, R73), the encoder as the inverse of both decoders (R78), and the text of a program (R80). -/

namespace Sys2Proof.Machine

/-! ### Request words -/

/-- A request word is its three fields side by side (30_encoding.md R74). -/
theorem toNat_eq_fields (w : Byte) : w.toNat = 16 * (reservedField w).toNat + 8 * (argv w).toNat + opsel w := by
  simp only [reservedField, opsel, argv, BitVec.extractLsb'_toNat, BitVec.getLsbD, Nat.toNat_testBit,
    Nat.shiftRight_eq_div_pow]
  omega

theorem word_of_fields {w : Byte} {b : Bool} {n : Nat} (hres : reservedField w = 0#4) (hargv : argv w = b)
    (hop : opsel w = n) : w = BitVec.ofNat 8 (8 * b.toNat + n) :=
  calc w = BitVec.ofNat 8 w.toNat := by simp
    _ = BitVec.ofNat 8 (8 * b.toNat + n) := by rw [toNat_eq_fields, hres, hargv, hop]; simp

/-- `ARGV` alone decides whether GET_RH takes the operand (30_encoding.md R76). -/
theorem decodeGetRh_cases {r : Request} {i : Instr} (h : decodeGetRh r = .instr i) :
    argv r.word = false ∧ i = .getRh none ∨ argv r.word = true ∧ ∃ t, r.operand = some t ∧ i = .getRh (some t) := by
  unfold decodeGetRh at h
  split_ifs at h with hargv
  · split at h
    case h_1 t ht => exact .inr ⟨hargv, t, ht, (Decoded.instr.inj h).symm⟩
    case h_2 => cases h
  · exact .inl ⟨by simpa using hargv, (Decoded.instr.inj h).symm⟩

/-- The seven legal requests, and the instruction that each stands for (30_encoding.md R75, R76, R77). -/
theorem decodeRequest_eq_instr {r : Request} {i : Instr} :
    decodeRequest r = .instr i ↔
      r.word = 0x00#8 ∧ i = .init ∨ r.word = 0x01#8 ∧ i = .getT ∨ r.word = 0x02#8 ∧ i = .getTp
      ∨ r.word = 0x03#8 ∧ i = .getRh none ∨ r.word = 0x04#8 ∧ i = .getTph ∨ r.word = 0x05#8 ∧ i = .getTh
      ∨ r.word = 0x0B#8 ∧ ∃ t, r.operand = some t ∧ i = .getRh (some t) := by
  constructor
  · intro h
    unfold decodeRequest at h
    split_ifs at h with hres hop hargv
    rw [not_not] at hres
    have hnoArg : opsel r.word ≠ 3 → argv r.word = false := fun h3 => by simpa [h3] using hargv
    split at h
    case h_4 hop =>
      obtain ⟨hargv, hi⟩ | ⟨hargv, ht⟩ := decodeGetRh_cases h
      · simp [word_of_fields hres hargv hop, hi]
      · simp [word_of_fields hres hargv hop, ht]
    case h_7 => cases h
    all_goals
      rename_i hop
      simp [word_of_fields hres (hnoArg (by omega)) hop, ← Decoded.instr.inj h]
  · obtain ⟨w, operand⟩ := r
    rintro (⟨rfl, rfl⟩ | ⟨rfl, rfl⟩ | ⟨rfl, rfl⟩ | ⟨rfl, rfl⟩ | ⟨rfl, rfl⟩ | ⟨rfl, rfl⟩ | ⟨rfl, t, rfl, rfl⟩) <;>
      simp [decodeRequest, reservedField, opsel, argv, decodeGetRh]

/-- Settles O9, by the seven legal requests. -/
theorem exactlySevenLegalRequestWords : Obligations.ExactlySevenLegalRequestWords := by
  intro w operand
  simp only [decodeRequest_eq_instr, exists_or, exists_and_left, exists_eq, and_true, Option.isSome_iff_exists]
  rw [exists_comm]
  simp only [exists_and_left, exists_eq, and_true]

/-! ### Command bytes -/

/-- The decoder of commands is the table of 30_encoding.md R71, with the sub-devices of R73. -/
theorem decodeCommand_eq_instr {c : Byte} {i : Instr} :
    decodeCommand c = .instr i ↔ (i, c, commandDevice c) ∈ Claims.commands := by
  constructor
  · intro h
    have hc := mem_of_decodeCommand h
    simp only [List.mem_cons, List.not_mem_nil, or_false] at hc
    rcases hc with rfl | rfl | rfl | rfl | rfl | rfl | rfl | rfl | rfl | rfl | rfl <;>
    · obtain rfl := Decoded.instr.inj h
      decide
  · have hrows : ∀ row ∈ Claims.commands, decodeCommand row.2.1 = .instr row.1 := by decide
    exact hrows _

theorem commandDevice_of_mem : ∀ row ∈ Claims.commands, commandDevice row.2.1 = row.2.2 := by decide

theorem decodeCommand_of_mem {row : Instr × Byte × Device} (h : row ∈ Claims.commands) :
    decodeCommand row.2.1 = .instr row.1 :=
  decodeCommand_eq_instr.mpr (by rwa [commandDevice_of_mem row h])

/-- Settles O10, by the table. -/
theorem exactlyElevenCommandBytes : Obligations.ExactlyElevenCommandBytes :=
  ⟨fun _ _ => ⟨fun h => ⟨_, decodeCommand_eq_instr.mp h⟩, fun ⟨_, h⟩ => decodeCommand_of_mem h⟩,
    commandDevice_of_mem⟩

theorem encode_of_decodeCommand {c : Byte} {i : Instr} (h : decodeCommand c = .instr i) : encode i = .command c := by
  have hrows : ∀ row ∈ Claims.commands, encode row.1 = .command row.2.1 := by decide
  exact hrows _ (decodeCommand_eq_instr.mp h)

/-! ### The round trips -/

/-- Settles O7, by cases on the instruction; the operand of GET_RH is kept whatever it is. -/
theorem decodeOfEncodeIsTheInstruction : Obligations.DecodeOfEncodeIsTheInstruction := by
  intro i _
  cases i with
  | getRh arg =>
    cases arg with
    | none => rfl
    | some t => exact decodeRequest_eq_instr.mpr (by simp)
  | init | getT | getTp | getTph | getTh => rfl
  | busResetTp | busPromReadC0 | busPromReadC1 | busPromReadC2 | busPromReadC3 | busPromReadC4 | busPromReadC5
  | busConvertT | busConvertP | busResetRh | busMeasureRh =>
    exact decodeCommand_eq_instr.mpr (by decide)

/-- Settles O8, by the seven legal requests and the table of commands. -/
theorem encodeOfDecodedWire : Obligations.EncodeOfDecodedWire := by
  refine ⟨fun r i h => ?_, fun c i => encode_of_decodeCommand⟩
  obtain ⟨w, operand⟩ := r
  obtain ⟨rfl, rfl⟩ | ⟨rfl, rfl⟩ | ⟨rfl, rfl⟩ | ⟨rfl, rfl⟩ | ⟨rfl, rfl⟩ | ⟨rfl, rfl⟩ | ⟨rfl, t, rfl, rfl⟩ :=
    decodeRequest_eq_instr.mp h <;> rfl

/-! ### Closed forms and written words -/

/-- Settles O11, by evaluating the six commands. -/
theorem promCommandsInClosedForm : Obligations.PromCommandsInClosedForm := by
  unfold Obligations.PromCommandsInClosedForm
  decide

/-- Settles O12, by evaluating the decoders. -/
theorem handWrittenWordsDecode : Obligations.HandWrittenWordsDecode :=
  ⟨rfl, rfl, rfl, rfl, rfl, rfl, rfl, rfl, rfl, rfl, rfl⟩

/-- Settles O13, by evaluating the assembler; the literal `-12.5` is -(12 + 5 / 10). -/
theorem assemblerReadsTheSyntax : Obligations.AssemblerReadsTheSyntax := by
  have hliteral : decimal ['-', '1', '2', '.', '5'] = some (-25 / 2) := by
    show some (-((12 : Nat) + (5 : Nat) / 10 ^ 1) : Rat) = _
    norm_num
  refine ⟨?_, rfl, rfl⟩
  show (decimal ['-', '1', '2', '.', '5']).elim .malformed (fun t => blockingRequest 0x0B#8 (some t)) = _
  rw [hliteral]
  rfl

end Sys2Proof.Machine
end

section
/-! The bus commands as instructions: a command byte at its place runs as `exec` of what it decodes to, and what it changes
is its BusWrite, the sequencer's move and the flag of its phase (30_encoding.md R71; 60_exceptions.md R201). -/

namespace Sys2Proof.Machine

variable {s t : State} {o : Op} {n : Nat} {c : Byte} {i : Instr}

/-! ### A command's step -/

theorem runCommand_of_decodeCommand (hi : decodeCommand c = .instr i) (s : State) : runCommand c s = exec i s := by
  rw [runCommand, hi]

/-- The controller's turn at a command byte is the command it decodes to. -/
theorem controllerTurn_of_command (hi : decodeCommand c = .instr i) (hn : s.nextEvent = some (.command c)) :
    controllerTurn s = exec i s := by
  obtain ⟨hbusy, -⟩ := State.nextEvent_eq_some.mp hn
  calc controllerTurn s
      = runOperation s := if_pos hbusy
    _ = runCommand c s := runOperation_of_nextEvent hn
    _ = exec i s := runCommand_of_decodeCommand hi s

/-- Settles O5, since each of the three turns is the controller's. -/
theorem stepRunsTheEmittedCommand : Obligations.StepRunsTheEmittedCommand := by
  intro s c i hn hi _
  obtain ⟨hbusy, -⟩ := State.nextEvent_eq_some.mp hn
  refine ⟨fun hs => ?_, fun rest hs => ?_, fun rest hs => ?_⟩
  · simpa [step, takeTurn, hs] using controllerTurn_of_command hi hn
  · simpa [step, takeTurn, hs] using controllerTurn_of_command (s := { s with schedule := rest }) hi hn
  · simpa [step, takeTurn, hs, hbusy, controllerTurn] using controllerTurn_of_command hi hn

/-- A command byte is placed at an event that issues it, with the controller's turn next. -/
theorem State.atCommand_of_decodeCommand (hi : decodeCommand c = .instr i) (s : State) :
    (s.atCommand c).nextEvent = some (.command c) ∧ (s.atCommand c).schedule = .controller :: s.schedule := by
  have hc := mem_of_decodeCommand hi
  simp only [List.mem_cons, List.not_mem_nil, or_false] at hc
  rcases hc with rfl | rfl | rfl | rfl | rfl | rfl | rfl | rfl | rfl | rfl | rfl <;> exact ⟨rfl, rfl⟩

theorem wellFormed_instr (i : Instr) : i.wellFormed = true := by cases i <;> rfl

/-- An idle block next runs what is placed on the wire, with the added turn taken off. -/
theorem step_place {w : Wire} (hidle : s.status.busy = false) (hi : decode w = .instr i) :
    step (s.place w) = exec i { s.place w with schedule := s.schedule } := by
  cases w with
  | request r =>
    have hi' : decodeRequest r = .instr i := hi
    show presentRequest r s = exec i s
    simp [presentRequest, hidle, hi']
  | command c =>
    obtain ⟨hn, hs⟩ := State.atCommand_of_decodeCommand hi s
    obtain ⟨-, hcontroller, -⟩ := stepRunsTheEmittedCommand (s.atCommand c) c i hn hi (wellFormed_instr i)
    exact hcontroller s.schedule hs

theorem decode_of_decodeTableWord {nbits w : Nat} (h : decodeTableWord nbits w = some i) :
    decode (tableWire w) = .instr i := by
  unfold decodeTableWord at h
  split_ifs at h
  split at h
  case h_1 j hj => rw [hj, Option.some.inj h]
  case h_2 => cases h

/-- Settles O6, by the step of what is placed on the wire. -/
theorem fetchedWordIsTheNextStep : Obligations.FetchedWordIsTheNextStep :=
  fun _ _ _ _ hidle hi => step_place hidle (decode_of_decodeTableWord hi)

/-! ### What a command does -/

/-- A command stops the model where the running operation does not stand at its byte (log 4). -/
theorem exec_outOfSequence (hi : decodeCommand c = .instr i) (hn : s.nextEvent ≠ some (.command c)) :
    exec i s = .fault .outOfSequence := by
  rw [exec_of_decodeCommand hi]
  split
  case isTrue hc => rw [execBusResetRh, if_neg (hc ▸ hn)]
  case isFalse => rw [emitCommand, if_neg hn]

/-- Settles O36, by the place that a command checks. -/
theorem commandOutOfSequenceStops : Obligations.CommandOutOfSequenceStops :=
  fun _ hrow _ => exec_outOfSequence (decodeCommand_of_mem hrow)

/-- Everything a command can do that answers a state: it is done and the sequencer goes on, or an error ends its phase. -/
theorem exec_command_cases (hi : decodeCommand c = .instr i) (h : exec i s = .next t) :
    s.nextEvent = some (.command c)
      ∧ ((∃ m, BusStep.Done s (.command c) m ∧ t = m.advance) ∨ BusStep.Failed s (.command c) t) := by
  have hn : s.nextEvent = some (.command c) := by
    by_contra hn
    simp [exec_outOfSequence hi hn] at h
  exact ⟨hn, runCommand_cases hn ((runCommand_of_decodeCommand hi s).trans h)⟩

/-! ### A command answered ok -/

/-- Only 0xFE is an operation's last event. -/
theorem command_not_last (he : (eventList o)[n]? = some (.command c)) (hc : c ≠ 0xFE#8) :
    n + 1 < (eventList o).length := by
  obtain ⟨-, hc', -⟩ | ⟨rfl, -, hn⟩ | ⟨-, rfl, ho⟩ | ⟨-, rfl, ho⟩ | ⟨-, ho⟩ := standsAt_of_getElem? he
  · exact absurd hc' hc
  · have hlen : (eventList .init).length = 16 := rfl
    omega
  · rcases ho with rfl | rfl | rfl | rfl <;> decide
  · rcases ho with rfl | rfl <;> decide
  · rcases ho with ⟨rfl, rfl⟩ | ⟨rfl, rfl⟩ | ⟨rfl, rfl⟩ <;> decide

theorem State.advance_of_lt (ho : s.op = some o) (hlt : s.seq + 1 < (eventList o).length) :
    s.advance = { s with seq := s.seq + 1 } := by
  simp [State.advance, State.settle, ho, Nat.not_le.mpr hlt]

/-- Settles O30: the command is sent, and the sequencer goes on since it is not the last event. -/
theorem answeredCommandGoesOn : Obligations.AnsweredCommandGoesOn := by
  rintro ⟨i, c, d⟩ hrow hne s hn ha
  have hi := decodeCommand_of_mem hrow
  obtain rfl : commandDevice c = d := commandDevice_of_mem _ hrow
  have hc : c ≠ 0xFE#8 := by
    rintro rfl
    exact hne (Decoded.instr.inj hi).symm
  obtain ⟨-, o, ho, he⟩ := State.nextEvent_eq_some.mp hn
  have hsent : exec i s = .next (s.exchange (.busWrite (s.cfg.addr (commandDevice c)) c)).advance := by
    rw [← runCommand_of_decodeCommand hi, runCommand_of_nextEvent hn, if_neg hc, State.issueCommand, if_pos ha]
  rw [hsent, State.advance_of_lt (o := o) (by simpa using ho) (by simpa using command_not_last he hc)]
  simp [State.exchange, State.record, Claims.wrote]

/-! ### What a command leaves unchanged -/

/-- The registers, handles, latches and lists that no command writes, and its one BusWrite in the history. -/
theorem exec_command_unchanged (hi : decodeCommand c = .instr i) (h : exec i s = .next t) :
    t.cal = s.cal ∧ t.raw = s.raw ∧ t.res = s.res ∧ t.hTp = s.hTp ∧ t.hRh = s.hRh ∧ t.op = s.op ∧ t.argT = s.argT
    ∧ t.cfg = s.cfg ∧ t.schedule = s.schedule ∧ t.replies = s.replies
    ∧ t.history = s.history ++ [Claims.wrote (commandDevice c) c s] := by
  obtain ⟨-, ⟨m, hd, rfl⟩ | ⟨-, ph, -, rfl⟩⟩ := exec_command_cases hi h
  · cases hd <;> simp [BusStep.exchanged, eventOf_command, Claims.wrote]
  · simp [BusStep.exchanged, eventOf_command, Claims.wrote]

theorem State.advance_status (s : State) : s.advance.status = { s.status with busy := s.advance.status.busy } :=
  State.settle_status _

/-- STATUS after a command: `BUSY` apart, 0xFE answered ok makes the block READY, and an error sets the phase's flag. -/
theorem exec_command_status (hi : decodeCommand c = .instr i) (h : exec i s = .next t) :
    ∃ b, t.status = { s.status with busy := b }
      ∨ i = .busResetRh ∧ t.status = { s.status with state := .ready, busy := b }
      ∨ t.status = { s.status.withError (commandPhase c) with busy := b } := by
  obtain ⟨hn, ⟨m, hd, rfl⟩ | ⟨-, ph, hph, rfl⟩⟩ := exec_command_cases hi h
  · refine ⟨m.advance.status.busy, ?_⟩
    rw [State.advance_status]
    cases hd with
    | command => simp [BusStep.exchanged]
    | resetRh => exact .inr (.inl ⟨(Decoded.instr.inj hi).symm, by simp [BusStep.exchanged]⟩)
  · obtain rfl := Option.some.inj hph
    obtain ⟨-, o, ho, -⟩ := State.nextEvent_eq_some.mp hn
    have hst := State.failPhase_status (BusStep.exchanged (.command c) s) (commandPhase c) (o := o)
      (by simpa [BusStep.exchanged] using ho)
    rw [BusStep.exchanged, State.exchange_status] at hst
    exact ⟨_, .inr (.inr hst)⟩

/-- The three commands outside INIT's phase. -/
theorem commandPhase_of_mem : ∀ row ∈ Claims.commands,
    (commandPhase row.2.1 = .acqT ↔ row.1 = .busConvertT) ∧ (commandPhase row.2.1 = .acqP ↔ row.1 = .busConvertP)
    ∧ (commandPhase row.2.1 = .acqRh ↔ row.1 = .busMeasureRh) := by decide

/-- Of STATUS a command may write `BUSY`, and of the rest only what belongs to its own phase (60_exceptions.md R201). -/
theorem exec_command_status_frame {row : Instr × Byte × Device} (hrow : row ∈ Claims.commands)
    (h : exec row.1 s = .next t) :
    t.status = { s.status with
        state := t.status.state, busy := t.status.busy, errInit := t.status.errInit, errT := t.status.errT
        errP := t.status.errP, errRh := t.status.errRh }
    ∧ (row.1 = .busConvertT ∨ row.1 = .busConvertP ∨ row.1 = .busMeasureRh →
        t.status.state = s.status.state ∧ t.status.errInit = s.status.errInit)
    ∧ (row.1 ≠ .busConvertT → t.status.errT = s.status.errT)
    ∧ (row.1 ≠ .busConvertP → t.status.errP = s.status.errP)
    ∧ (row.1 ≠ .busMeasureRh → t.status.errRh = s.status.errRh) := by
  obtain ⟨b, hst | ⟨hreset, hst⟩ | hst⟩ := exec_command_status (decodeCommand_of_mem hrow) h <;> rw [hst]
  · simp
  · simp [hreset]
  · obtain ⟨hacqT, hacqP, hacqRh⟩ := commandPhase_of_mem row hrow
    cases hph : commandPhase row.2.1 <;> simp [Status.withError, ← hacqT, ← hacqP, ← hacqRh, hph]

/-- Settles O38, by what no command writes and by what a command may do to STATUS. -/
theorem commandFrame : Obligations.CommandFrame := by
  rintro s t ⟨i, c, d⟩ hrow h
  obtain rfl : commandDevice c = d := commandDevice_of_mem _ hrow
  obtain ⟨hcal, hraw, hres, hTp, hRh, hop, hargT, hcfg, hschedule, hreplies, hhistory⟩ :=
    exec_command_unchanged (decodeCommand_of_mem hrow) h
  obtain ⟨hstatus, hinit, hacqT, hacqP, hacqRh⟩ := exec_command_status_frame hrow h
  exact ⟨hcal, hraw, hres, hTp, hRh, hop, hargT, hcfg, hschedule, hreplies, hstatus, hinit, hacqT, hacqP, hacqRh,
    hhistory⟩

end Sys2Proof.Machine
end

section
/-! One move of the sequencer as an equation: what a running entry leaves when it is done, and when it is answered with
an error. Then INIT's entries, whose error ends INIT (40_init.md R104). -/

namespace Sys2Proof.Machine

variable {s m : State} {o : Op} {n : Nat} {e : BusStep} {c : Byte}

/-! ### Running an entry -/

/-- An entry that is done hands over to the next one. -/
theorem runEvent_of_done (hn : s.nextEvent = some e) (hd : e.Done s m) : runEvent e s = .next m.advance := by
  cases hd with
  | openDevice d ha => simp [runEvent, State.openDevice, ha, BusStep.exchanged, eventOf_openDevice]
  | command hc ha =>
    rw [runEvent, runCommand_of_nextEvent hn, if_neg hc, State.issueCommand, if_pos ha, BusStep.exchanged,
      eventOf_command]
  | resetRh ha =>
    rw [runEvent, runCommand_of_nextEvent hn, if_pos rfl, State.issueResetRh, if_pos ha]
    rfl
  | waitConversion => rfl
  | readCal k v ha => simp [runEvent, State.readCal, ha, BusStep.exchanged, Claims.eventOf, Config.addr]
  | readD2 v f ha hf => simp [runEvent, readD2, ha, hf, BusStep.exchanged, Claims.eventOf, Config.addr]
  | readD1 v p ha hp => simp [runEvent, readD1, ha, hp, BusStep.exchanged, Claims.eventOf, Config.addr]
  | readD3 v ha => simp [runEvent, State.readD3, ha, BusStep.exchanged, Claims.eventOf, Config.addr]

/-- An entry that is answered with an error ends its phase. -/
theorem runEvent_of_error (hn : s.nextEvent = some e) {ph : Phase} (hph : e.phase = some ph)
    (ha : answerOk e.byteCount s.answer = false) : runEvent e s = .next ((e.exchanged s).failPhase ph) := by
  cases e with
  | waitConversion => cases hph
  | openDevice d =>
    obtain rfl := Option.some.inj hph
    simp [runEvent, State.openDevice, show answerOk 0 s.answer = false from ha, BusStep.exchanged, eventOf_openDevice]
  | command c =>
    obtain rfl := Option.some.inj hph
    replace ha : answerOk 0 s.answer = false := ha
    rw [runEvent, runCommand_of_nextEvent hn]
    by_cases hc : c = 0xFE#8
    · subst hc
      simp [State.issueResetRh, ha, BusStep.exchanged, Claims.eventOf, Config.addr, commandPhase]
    · simp [hc, State.issueCommand, ha, BusStep.exchanged, eventOf_command]
  | readCal | readD3 =>
    obtain rfl := Option.some.inj hph
    simp [runEvent, State.readCal, State.readD3, answer16_eq_none.mpr ha, BusStep.exchanged, Claims.eventOf, Config.addr]
  | readD2 | readD1 =>
    obtain rfl := Option.some.inj hph
    simp [runEvent, readD2, readD1, answer24_eq_none.mpr ha, BusStep.exchanged, Claims.eventOf, Config.addr]

/-! ### INIT's entries -/

theorem phase_of_mem_initList : ∀ e ∈ initList, e.phase = some .init := by decide

/-- INIT runs only while it stands at an entry of INIT's phase. -/
theorem op_of_init_phase (hn : s.nextEvent = some e) (hph : e.phase = some .init) : s.op = some .init := by
  obtain ⟨-, o, ho, he⟩ := State.nextEvent_eq_some.mp hn
  obtain rfl : o = .init := spans_of_standsAt (standsAt_of_getElem? he) hph
  exact ho

/-- An error ends INIT in FAILED, past its last event (40_init.md R104; log 6). -/
theorem State.failPhase_init (ho : s.op = some .init) :
    s.failPhase .init =
      { s with status := { s.status with state := .failed, errInit := true, busy := false }, seq := 16 } := by
  simp [State.failPhase, State.jump, State.settle, ho, resumeAt, eventList, initList, State.complete, Status.withError]

/-- INIT's entry answered with an error ends INIT, with that event recorded (40_init.md R104). -/
theorem runEvent_init_error (hn : s.nextEvent = some e) (hph : e.phase = some .init)
    (ha : answerOk e.byteCount s.answer = false) :
    runEvent e s = .next { s.consume with
      status := { s.status with state := .failed, errInit := true, busy := false }
      seq := 16, history := s.history ++ [Claims.made e s] } := by
  rw [runEvent_of_error hn hph ha,
    State.failPhase_init (by simpa [BusStep.exchanged] using op_of_init_phase hn hph)]
  simp [BusStep.exchanged, State.exchange, State.record, Claims.made]

/-! ### The requests and commands of INIT -/

/-- Settles O16, by the acceptance of INIT and its start. -/
theorem initStartsFresh : Obligations.InitStartsFresh := by
  intro s hidle
  obtain ⟨hbusy, -⟩ | ⟨-, haccepted⟩ := execInit_cases s
  · simp [hidle] at hbusy
  · exact haccepted

/-- Settles O22: every entry of INIT is in INIT's phase, and the answer is an error for each. -/
theorem initFailsAtItsFirstError : Obligations.InitFailsAtItsFirstError := by
  intro s e hbusy hop he hs herr
  have hn : s.nextEvent = some e := State.nextEvent_eq_some.mpr ⟨hbusy, .init, hop, he⟩
  have ha : answerOk e.byteCount s.answer = false := by
    obtain herr | ⟨⟨k, rfl⟩, hbad⟩ := herr
    · rw [herr]
      rfl
    · exact answerOk_eq_false.mpr hbad
  rw [step_of_nextEvent hn hs]
  exact runEvent_init_error hn (phase_of_mem_initList e (List.mem_of_getElem? he)) ha

/-- The eight commands of INIT are in INIT's phase. -/
theorem commandPhase_of_init_command : ∀ row ∈ Claims.commands,
    (∃ c, (row.1, c) ∈ Claims.initCommands) ∨ row.1 = .busResetRh → commandPhase row.2.1 = .init := by
  rintro row hrow hinit
  obtain ⟨hacqT, hacqP, hacqRh⟩ := commandPhase_of_mem row hrow
  cases hph : commandPhase row.2.1 with
  | init => rfl
  | acqT => simp [hacqT.mp hph, Claims.initCommands] at hinit
  | acqP => simp [hacqP.mp hph, Claims.initCommands] at hinit
  | acqRh => simp [hacqRh.mp hph, Claims.initCommands] at hinit

/-- Settles O32: a command of INIT is an entry of INIT's phase. -/
theorem failedInitCommandEndsInit : Obligations.FailedInitCommandEndsInit := by
  rintro ⟨i, c, d⟩ hrow hinit s hn ha
  obtain rfl : commandDevice c = d := commandDevice_of_mem _ hrow
  have hph := commandPhase_of_init_command _ hrow hinit
  rw [← runCommand_of_decodeCommand (decodeCommand_of_mem hrow)]
  simpa [runEvent, Claims.made, Claims.wrote, eventOf_command] using
    runEvent_init_error hn (congrArg some hph) ha

/-- 0xFE stands last in INIT alone. -/
theorem standsAt_resetRh (hs : BusStep.standsAt o n (.command 0xFE#8)) : o = .init ∧ n = 15 := by
  simpa [BusStep.standsAt] using hs

/-- Settles O31: after 0xFE the sequencer has passed INIT's last event. -/
theorem rhResetCommandCompletesInit : Obligations.RhResetCommandCompletesInit := by
  intro s hn ha
  obtain ⟨-, o, ho, he⟩ := State.nextEvent_eq_some.mp hn
  obtain ⟨rfl, hseq⟩ := standsAt_resetRh (standsAt_of_getElem? he)
  have hdone : exec .busResetRh s = _ := runEvent_of_done hn (.resetRh ha)
  rw [hdone]
  simp [State.advance, State.settle, ho, hseq, eventList, initList, State.complete, State.setReady, BusStep.exchanged,
    State.exchange, State.record, eventOf_command, Claims.wrote, commandDevice]

end Sys2Proof.Machine
end

section
/-! The sequencer, one event a step, against the pseudocode of whole operations (Reference.lean). The pseudocode leaves
`seq` alone until the operation's end, so every state is taken with `seq` set: `EndsAs o n s r` says that the steps from
event `n` of operation `o` end as `r`, whatever `seq` the state `s` itself holds. -/

namespace Sys2Proof.Machine

variable {s m t u : State} {o : Op} {n : Nat} {e : BusStep} {ph : Phase} {r : Result}

/-! ### States apart from `seq` -/

/-- The state with another `seq`. -/
def State.atSeq (n : Nat) (s : State) : State := { s with seq := n }

/-- The sequencer goes to event `n`, or completes the operation past its last event (10_state.md R33). -/
def State.goTo (n : Nat) (s : State) : State := (s.atSeq n).settle

theorem State.exchange_atSeq (ev : BusEvent) : (s.atSeq n).exchange ev = (s.exchange ev).atSeq n := by
  cases hs : s.script <;> simp [State.exchange, State.consume, State.record, State.atSeq, State.answer, hs]

theorem State.keepFirstOrder_atSeq (f : FirstOrder) : (s.atSeq n).keepFirstOrder f = (s.keepFirstOrder f).atSeq n := by
  cases ho : s.op with
  | none => simp [State.keepFirstOrder, State.atSeq, State.writeFirstOrder, ho]
  | some o => cases o <;> simp [State.keepFirstOrder, State.atSeq, State.writeFirstOrder, State.writeTOnly, ho]

theorem BusStep.exchanged_atSeq (e : BusStep) : e.exchanged (s.atSeq n) = (e.exchanged s).atSeq n :=
  State.exchange_atSeq _

/-- What an entry writes does not depend on `seq`. -/
theorem BusStep.Done.atSeq (hd : e.Done s m) (n : Nat) : e.Done (s.atSeq n) (m.atSeq n) := by
  cases hd with
  | openDevice d ha =>
    have hd := Done.openDevice (s := s.atSeq n) d ha
    rw [exchanged_atSeq] at hd
    cases d <;> exact hd
  | command hc ha => exact exchanged_atSeq _ ▸ .command hc ha
  | resetRh ha =>
    have hd := Done.resetRh (s := s.atSeq n) ha
    rwa [exchanged_atSeq] at hd
  | waitConversion => exact .waitConversion
  | readCal k v ha =>
    have hd := Done.readCal (s := s.atSeq n) k v ha
    rwa [exchanged_atSeq] at hd
  | readD2 v f ha hf =>
    have hd := Done.readD2 (s := s.atSeq n) v f ha hf
    rw [exchanged_atSeq] at hd
    rw [← State.keepFirstOrder_atSeq]
    exact hd
  | readD1 v p ha hp =>
    have hd := Done.readD1 (s := s.atSeq n) v p ha hp
    rwa [exchanged_atSeq] at hd
  | readD3 v ha =>
    have hd := Done.readD3 (s := s.atSeq n) v ha
    rwa [exchanged_atSeq] at hd

/-- An error records the phase's flag and goes to where the operation resumes (10_state.md R33). -/
theorem State.failPhase_atSeq (ho : s.op = some o) :
    (s.atSeq n).failPhase ph = (s.noteError ph).goTo (resumeAt o ph) := by
  simp [State.failPhase, State.jump, State.goTo, State.atSeq, State.noteError, ho]

/-! ### Runs of the sequencer -/

/-- Operation `o` runs and the host takes no turn. -/
def InOperation (o : Op) (s : State) : Prop := s.op = some o ∧ s.status.busy = true ∧ s.schedule = []

/-- The steps of operation `o` from its event `n` end as `r`, given as many as there are events left. -/
def EndsAs (o : Op) (n : Nat) (s : State) (r : Result) : Prop :=
  InOperation o s → ∀ k, (eventList o).length ≤ n + k → runSteps k (s.goTo n) = r

theorem schedule_done (hd : e.Done s m) : m.schedule = s.schedule := by
  cases hd <;> simp [BusStep.exchanged]

theorem InOperation.done (h : InOperation o s) (hd : e.Done s m) : InOperation o m := by
  obtain ⟨ho, hbusy, hs⟩ := h
  obtain ⟨ho', -, hbusy'⟩ := sequencer_done hd
  exact ⟨ho'.trans ho, hbusy'.trans hbusy, (schedule_done hd).trans hs⟩

theorem InOperation.failed (h : InOperation o s) (e : BusStep) (ph : Phase) :
    InOperation o ((e.exchanged s).noteError ph) := by
  simpa [InOperation, BusStep.exchanged] using h

/-- At an entry of the list the next step runs it. -/
theorem step_goTo (h : InOperation o s) (he : (eventList o)[n]? = some e) :
    (s.atSeq n).nextEvent = some e ∧ step (s.goTo n) = runEvent e (s.atSeq n) := by
  obtain ⟨ho, hbusy, hs⟩ := h
  have hn : (s.atSeq n).nextEvent = some e := State.nextEvent_eq_some.mpr ⟨hbusy, o, ho, he⟩
  obtain ⟨hlt, -⟩ := List.getElem?_eq_some_iff.mp he
  have hgo : s.goTo n = s.atSeq n := by simp [State.goTo, State.settle, State.atSeq, ho, Nat.not_le.mpr hlt]
  exact ⟨hn, by rw [hgo]; exact step_of_nextEvent hn hs⟩

theorem step_goTo_of_done (h : InOperation o s) (he : (eventList o)[n]? = some e) (hd : e.Done s m) :
    step (s.goTo n) = .next (m.goTo (n + 1)) := by
  obtain ⟨hn, hstep⟩ := step_goTo h he
  exact hstep.trans (runEvent_of_done hn (hd.atSeq n))

theorem step_goTo_of_error (h : InOperation o s) (he : (eventList o)[n]? = some e) (hph : e.phase = some ph)
    (ha : answerOk e.byteCount s.answer = false) :
    step (s.goTo n) = .next (((e.exchanged s).noteError ph).goTo (resumeAt o ph)) := by
  obtain ⟨hn, hstep⟩ := step_goTo h he
  obtain ⟨ho, -⟩ := h
  have ho' : (e.exchanged s).op = some o := by simpa [BusStep.exchanged] using ho
  rw [hstep, runEvent_of_error hn hph ha, BusStep.exchanged_atSeq, State.failPhase_atSeq ho']

/-- An idle block to which no turn is given stays as it is. -/
theorem runSteps_idle (hidle : s.status.busy = false) (hs : s.schedule = []) (k : Nat) : runSteps k s = .next s := by
  have hstep : step s = .next s := by simp [step, takeTurn, hs, controllerTurn, hidle]
  induction k with
  | zero => rfl
  | succ k ih => simp [runSteps, hstep, ih]

/-- Past the last event the operation is finished. -/
theorem endsAs_finish (o : Op) (s : State) : EndsAs o (eventList o).length s (.next (finishOperation o s)) := by
  rintro ⟨ho, -, hs⟩ k -
  have hgo : s.goTo (eventList o).length = finishOperation o s := by
    simp [State.goTo, State.settle, State.atSeq, finishOperation, ho]
  rw [hgo]
  exact runSteps_idle (s := finishOperation o s) rfl hs k

/-- A step to a later event leaves enough steps for the events from there on. -/
theorem EndsAs.of_step {n' : Nat} (hlen : n < (eventList o).length) (hlt : n < n')
    (hstep : InOperation o s → InOperation o m ∧ step (s.goTo n) = .next (m.goTo n')) (hrest : EndsAs o n' m r) :
    EndsAs o n s r := by
  intro hin k hk
  obtain ⟨hin', hstep⟩ := hstep hin
  obtain ⟨k, rfl⟩ : ∃ j, k = j + 1 := ⟨k - 1, by omega⟩
  rw [runSteps, hstep]
  exact hrest hin' k (by omega)

/-- An entry that is done is followed by the next event. -/
theorem EndsAs.of_done (he : (eventList o)[n]? = some e) (hd : e.Done s m) (hrest : EndsAs o (n + 1) m r) :
    EndsAs o n s r := by
  obtain ⟨hlen, -⟩ := List.getElem?_eq_some_iff.mp he
  exact .of_step hlen n.lt_succ_self (fun hin => ⟨hin.done hd, step_goTo_of_done hin he hd⟩) hrest

/-- An entry answered with an error is followed by the next phase that still runs. -/
theorem EndsAs.of_error (he : (eventList o)[n]? = some e) (hph : e.phase = some ph)
    (ha : answerOk e.byteCount s.answer = false) (hlt : n < resumeAt o ph)
    (hrest : EndsAs o (resumeAt o ph) ((e.exchanged s).noteError ph) r) : EndsAs o n s r := by
  obtain ⟨hlen, -⟩ := List.getElem?_eq_some_iff.mp he
  exact .of_step hlen hlt (fun hin => ⟨hin.failed e ph, step_goTo_of_error hin he hph ha⟩) hrest

/-- An entry that stops the model stops the run. -/
theorem EndsAs.of_fault (he : (eventList o)[n]? = some e) {f : Fault} (hf : runEvent e (s.atSeq n) = .fault f) :
    EndsAs o n s (.fault f) := by
  intro hin k hk
  obtain ⟨-, hstep⟩ := step_goTo hin he
  obtain ⟨hlen, -⟩ := List.getElem?_eq_some_iff.mp he
  obtain ⟨k, rfl⟩ : ∃ j, k = j + 1 := ⟨k - 1, by omega⟩
  rw [runSteps, hstep, hf]

end Sys2Proof.Machine
end

section
/-! The acquisitions of the pseudocode (Reference.lean): the sequencer runs each as the entries it stands for
(41_temperature.md R121, 42_pressure.md R142, 43_humidity.md R171). -/

namespace Sys2Proof.Machine

variable {s t m got : State} {o : Op} {n : Nat} {e : BusStep} {c : Byte} {ph : Phase} {r : Result} {f : FirstOrder}

/-! ### Converting and reading a sample -/

/-- The state after a convert command and its wait (41_temperature.md R121, 42_pressure.md R142). -/
def awaited (c : Byte) (s : State) : State :=
  ((BusStep.command c).exchanged s).record (.sleep ((BusStep.command c).exchanged s).cfg.convWaitMs) (.ok [])

@[simp] theorem awaited_op : (awaited c s).op = s.op := by simp [awaited, BusStep.exchanged]
@[simp] theorem awaited_cal : (awaited c s).cal = s.cal := by simp [awaited, BusStep.exchanged]
@[simp] theorem awaited_res : (awaited c s).res = s.res := by simp [awaited, BusStep.exchanged]
@[simp] theorem awaited_status : (awaited c s).status = s.status := by simp [awaited, BusStep.exchanged]

/-- An operation converts from its event `n` on: a command of the TP sub-device, a wait and a block read, in one phase
whose error skips them all (41_temperature.md R121, 42_pressure.md R142). -/
structure Converts (o : Op) (n : Nat) (c : Byte) (e : BusStep) (ph : Phase) : Prop where
  command : (eventList o)[n]? = some (.command c)
  wait : (eventList o)[n + 1]? = some .waitConversion
  read : (eventList o)[n + 2]? = some e
  resume : n + 2 < resumeAt o ph
  device : commandDevice c = .tp
  phase : commandPhase c = ph
  read_phase : e.phase = some ph
  read_count : e.byteCount = 3
  read_event : ∀ cfg, Claims.eventOf cfg e = .busBlockRead cfg.addrTp 3

theorem converts_acqT (he : (eventList o)[0]? = some (.command 0x5A#8)) : Converts o 0 0x5A#8 .readD2 .acqT := by
  have ho : o = .getT ∨ o = .getTp ∨ o = .getTph ∨ o = .getTh := by
    simpa [BusStep.standsAt] using standsAt_of_getElem? he
  rcases ho with rfl | rfl | rfl | rfl <;>
    exact ⟨rfl, rfl, rfl, by decide, rfl, rfl, rfl, rfl, fun _ => rfl⟩

theorem converts_acqP (he : (eventList o)[3]? = some (.command 0x4A#8)) :
    Converts o 3 0x4A#8 .readD1 .acqP ∧ resumeAt o .acqP = 6 := by
  have ho : o = .getTp ∨ o = .getTph := by simpa [BusStep.standsAt] using standsAt_of_getElem? he
  rcases ho with rfl | rfl <;> exact ⟨⟨rfl, rfl, rfl, by decide, rfl, rfl, rfl, rfl, fun _ => rfl⟩, rfl⟩

/-- Converting and reading fails at the command or at the read, or yields a sample. -/
theorem convertAndRead_cases (hc : Converts o n c e ph) (s : State) :
    (answerOk 0 s.answer = false
      ∧ convertAndRead c ph s = (none, ((BusStep.command c).exchanged s).noteError ph)) ∨
    (answerOk 0 s.answer = true ∧ answer24 (awaited c s).answer = none
      ∧ convertAndRead c ph s = (none, (e.exchanged (awaited c s)).noteError ph)) ∨
    (answerOk 0 s.answer = true ∧ ∃ v, answer24 (awaited c s).answer = some v
      ∧ convertAndRead c ph s = (some v, e.exchanged (awaited c s))) := by
  have hsent : s.exchange (.busWrite (s.cfg.addr .tp) c) = (BusStep.command c).exchanged s := by
    rw [BusStep.exchanged, eventOf_command, hc.device]
  have hread : (awaited c s).exchange (.busBlockRead ((awaited c s).cfg.addr .tp) 3) = e.exchanged (awaited c s) := by
    rw [BusStep.exchanged, hc.read_event]
    rfl
  have hwait : ((BusStep.command c).exchanged s).record
      (.sleep ((BusStep.command c).exchanged s).cfg.convWaitMs) (.ok []) = awaited c s := rfl
  unfold convertAndRead
  simp only [hsent, hwait, hread]
  cases answerOk 0 s.answer
  · simp
  · cases answer24 (awaited c s).answer <;> simp

/-- The sequencer converts and reads as the pseudocode does, up to the writes that follow the sample. -/
theorem endsAs_convertAndRead (hc : Converts o n c e ph)
    (hfail : ∀ got, convertAndRead c ph s = (none, got) → EndsAs o (resumeAt o ph) got r)
    (hread : ∀ v, answer24 (awaited c s).answer = some v →
      convertAndRead c ph s = (some v, e.exchanged (awaited c s)) → EndsAs o (n + 2) (awaited c s) r) :
    EndsAs o n s r := by
  have hne : c ≠ 0xFE#8 := by
    rintro rfl
    exact absurd hc.device (by decide)
  have hresume := hc.resume
  have hwaited (ha : answerOk 0 s.answer = true) (hrest : EndsAs o (n + 2) (awaited c s) r) : EndsAs o n s r :=
    .of_done hc.command (.command hne ha) (.of_done hc.wait .waitConversion hrest)
  obtain ⟨ha, hconv⟩ | ⟨ha, hsample, hconv⟩ | ⟨ha, v, hsample, hconv⟩ := convertAndRead_cases hc s
  · exact .of_error hc.command (congrArg some hc.phase) ha (by omega) (hfail _ hconv)
  · refine hwaited ha (.of_error hc.read hc.read_phase ?_ hc.resume (hfail _ hconv))
    rw [hc.read_count]
    exact answer24_eq_none.mp hsample
  · exact hwaited ha (hread v hsample hconv)

@[simp] theorem Status.withError_vT (ph : Phase) (st : Status) : (st.withError ph).vT = st.vT := by cases ph <;> rfl

/-- Converting and reading writes no result and leaves `OP`. -/
theorem convertAndRead_keeps (hc : Converts o n c e ph) {v : Option Word24}
    (h : convertAndRead c ph s = (v, got)) : got.op = s.op ∧ got.res = s.res ∧ got.status.vT = s.status.vT := by
  obtain ⟨-, hconv⟩ | ⟨-, -, hconv⟩ | ⟨-, w, -, hconv⟩ := convertAndRead_cases hc s <;>
  · obtain ⟨-, rfl⟩ := Prod.mk.inj (hconv.symm.trans h)
    simp [BusStep.exchanged]

/-! ### The three acquisitions -/

/-- FIRST_ORDER stops the model where a coefficient holds no value (log 5). -/
theorem readD2_fault {v : Word24} (ha : answer24 s.answer = some v) (hf : calFirstOrder s.cal v = none) :
    readD2 s = .fault .absentOperand := by
  simp [readD2, ha, hf]

/-- COMPENSATE stops the model where an operand holds no value (log 5). -/
theorem readD1_fault {v : Word24} (ha : answer24 s.answer = some v) (hp : calCompensate s.cal s.res v = none) :
    readD1 s = .fault .absentOperand := by
  simp [readD1, ha, hp]

/-- ACQ_T: its three ends, and that the sample's exchange leaves `OP` and `V_T` (41_temperature.md R121). -/
theorem endsAs_acqT (he : (eventList o)[0]? = some (.command 0x5A#8))
    (hfail : ∀ got, convertAndRead 0x5A#8 .acqT s = (none, got) → got.op = s.op → got.status.vT = s.status.vT →
      EndsAs o (resumeAt o .acqT) got r)
    (hstop : ∀ v got, convertAndRead 0x5A#8 .acqT s = (some v, got) → calFirstOrder s.cal v = none →
      r = .fault .absentOperand)
    (hok : ∀ v got f, convertAndRead 0x5A#8 .acqT s = (some v, got) → calFirstOrder s.cal v = some f →
      got.op = s.op → EndsAs o 3 ((got.writeD2 v).keepFirstOrder f) r) : EndsAs o 0 s r := by
  have hc := converts_acqT he
  refine endsAs_convertAndRead hc (fun got hconv => ?_) fun v hsample hconv => ?_ <;>
    obtain ⟨hop, -, hvT⟩ := convertAndRead_keeps hc hconv
  · exact hfail got hconv hop hvT
  · cases hf : calFirstOrder s.cal v with
    | none =>
      rw [hstop v _ hconv hf]
      exact .of_fault hc.read (readD2_fault hsample (by simpa [State.atSeq] using hf))
    | some f => exact .of_done hc.read (.readD2 v f hsample (by simpa using hf)) (hok v _ f hconv hf hop)

/-- COMPENSATE with the operation's own `dT` and `TEMP` is the sequencer's, which reads them back (log 11). -/
theorem pressurePart_of_sample (hdt : s.res.dt = some f.dt) (htemp : s.res.temp = some f.temp) {v : Word24}
    (h : convertAndRead 0x4A#8 .acqP s = (some v, got)) :
    (calCompensate s.cal s.res v = none ∧ pressurePart f s = .fault .absentOperand) ∨
    ∃ p, calCompensate s.cal s.res v = some p ∧ pressurePart f s = .next ((got.writeD1 v).writeCompensated p) := by
  unfold pressurePart calCompensate
  rw [h, hdt, htemp]
  cases s.cal.c0 <;> cases s.cal.c1 <;> cases s.cal.c2 <;> cases s.cal.c3 <;> simp

theorem pressurePart_of_error (h : convertAndRead 0x4A#8 .acqP s = (none, got)) : pressurePart f s = .next got := by
  simp [pressurePart, h]

/-- ACQ_P writes no `RES_T`, and leaves `OP` (42_pressure.md R150). -/
theorem pressurePart_keeps (hc : Converts o n 0x4A#8 e .acqP) (hdt : s.res.dt = some f.dt)
    (htemp : s.res.temp = some f.temp) (h : pressurePart f s = .next m) :
    m.op = s.op ∧ m.res.t = s.res.t ∧ m.status.vT = s.status.vT := by
  cases hconv : convertAndRead 0x4A#8 .acqP s with
  | mk v got =>
    obtain ⟨hop, hres, hvT⟩ := convertAndRead_keeps hc hconv
    cases v with
    | none =>
      obtain rfl := Host.Outcome.next.inj ((pressurePart_of_error hconv).symm.trans h)
      exact ⟨hop, by rw [hres], hvT⟩
    | some v =>
      obtain ⟨-, hp⟩ | ⟨p, -, hp⟩ := pressurePart_of_sample hdt htemp hconv
      · simp [hp] at h
      · obtain rfl := Host.Outcome.next.inj (hp.symm.trans h)
        simp [hop, hres, hvT]

/-- ACQ_P with COMPENSATE, which leaves `OP`, `RES_T` and `V_T` (42_pressure.md R141, R142, R150). -/
theorem endsAs_acqP (he : (eventList o)[3]? = some (.command 0x4A#8)) (hdt : s.res.dt = some f.dt)
    (htemp : s.res.temp = some f.temp) {k : State → State}
    (hrest : ∀ mid, mid.op = s.op → mid.res.t = s.res.t → mid.status.vT = s.status.vT →
      EndsAs o 6 mid (.next (k mid))) :
    EndsAs o 3 s (andThen (pressurePart f s) k) := by
  obtain ⟨hc, hresume⟩ := converts_acqP he
  have hnext (mid : State) (hp : pressurePart f s = .next mid) : EndsAs o 6 mid (andThen (pressurePart f s) k) := by
    obtain ⟨hop, ht, hvT⟩ := pressurePart_keeps hc hdt htemp hp
    rw [hp]
    exact hrest mid hop ht hvT
  refine endsAs_convertAndRead hc (fun got hconv => ?_) fun v hsample hconv => ?_
  · rw [hresume]
    exact hnext got (pressurePart_of_error hconv)
  · obtain ⟨hcal, hp⟩ | ⟨p, hcal, hp⟩ := pressurePart_of_sample hdt htemp hconv
    · rw [hp]
      exact .of_fault hc.read (readD1_fault hsample (by simpa [State.atSeq] using hcal))
    · exact .of_done hc.read (.readD1 v p hsample (by simpa using hcal)) (hnext _ hp)

/-- ACQ_RH fails at the command or at the read, or yields the humidity (43_humidity.md R171). -/
theorem humidityPart_cases (temp : Option Rat) (s : State) :
    (answerOk 0 s.answer = false
      ∧ humidityPart temp s = ((BusStep.command 0xE5#8).exchanged s).noteError .acqRh) ∨
    (answerOk 0 s.answer = true ∧ answer16 ((BusStep.command 0xE5#8).exchanged s).answer = none
      ∧ humidityPart temp s = (BusStep.readD3.exchanged ((BusStep.command 0xE5#8).exchanged s)).noteError .acqRh) ∨
    (answerOk 0 s.answer = true ∧ ∃ v, answer16 ((BusStep.command 0xE5#8).exchanged s).answer = some v
      ∧ humidityPart temp s =
        ((BusStep.readD3.exchanged ((BusStep.command 0xE5#8).exchanged s)).writeD3 v).writeRh (humidity v temp)) := by
  have hsent : s.exchange (.busWrite (s.cfg.addr .rh) 0xE5#8) = (BusStep.command 0xE5#8).exchanged s := rfl
  have hread (w : State) : w.exchange (.busRead (w.cfg.addr .rh) 2) = BusStep.readD3.exchanged w := rfl
  unfold humidityPart measureAndRead
  simp only [hsent, hread]
  cases answerOk 0 s.answer
  · simp
  · cases answer16 ((BusStep.command 0xE5#8).exchanged s).answer <;> simp

/-- ACQ_RH is the end of every operation that holds it (43_humidity.md R175; 44_composite.md R186, R188). -/
theorem acqRh_last (he : (eventList o)[n]? = some (.command 0xE5#8)) :
    (eventList o)[n + 1]? = some .readD3 ∧ n + 2 = (eventList o).length
      ∧ resumeAt o .acqRh = (eventList o).length := by
  have ho : o = .getRh ∧ n = 0 ∨ o = .getTph ∧ n = 6 ∨ o = .getTh ∧ n = 3 := by
    simpa [BusStep.standsAt] using standsAt_of_getElem? he
  obtain ⟨rfl, rfl⟩ | ⟨rfl, rfl⟩ | ⟨rfl, rfl⟩ := ho <;> exact ⟨rfl, rfl, rfl⟩

/-- ACQ_RH with HUMIDITY, and the operation's completion (43_humidity.md R171, R175). -/
theorem endsAs_acqRh (he : (eventList o)[n]? = some (.command 0xE5#8)) {temp : Option Rat}
    (htemp : correctingTemperature s = temp) :
    EndsAs o n s (.next (finishOperation o (humidityPart temp s))) := by
  obtain ⟨hread, hlen, hresume⟩ := acqRh_last he
  obtain ⟨ha, hp⟩ | ⟨ha, hsample, hp⟩ | ⟨ha, v, hsample, hp⟩ := humidityPart_cases temp s <;> rw [hp]
  · refine .of_error (ph := .acqRh) he rfl ha (by omega) ?_
    rw [hresume]
    exact endsAs_finish o _
  · refine .of_done he (.command (by decide) ha) (.of_error hread rfl (answer16_eq_none.mp hsample) (by omega) ?_)
    rw [hresume]
    exact endsAs_finish o _
  · have htemp' : correctingTemperature ((BusStep.command 0xE5#8).exchanged s) = temp := by
      simpa [correctingTemperature, BusStep.exchanged] using htemp
    refine .of_done he (.command (by decide) ha) (.of_done hread (.readD3 v hsample) ?_)
    rw [htemp', hlen]
    exact endsAs_finish o _

end Sys2Proof.Machine
end

section
/-! INIT of the pseudocode (Reference.lean): the sequencer runs it entry by entry, and fails where it fails (40_init.md
R102, R104). -/

namespace Sys2Proof.Machine

variable {s : State} {n : Nat} {e : BusStep}

/-- An error in INIT's phase is `init_fail` (40_init.md R102, R104). -/
theorem endsAs_initFail (he : (eventList .init)[n]? = some e) (ha : answerOk e.byteCount s.answer = false) :
    EndsAs .init n s (.next (initFail (e.exchanged s))) := by
  obtain ⟨hlt, -⟩ := List.getElem?_eq_some_iff.mp he
  exact .of_error he (phase_of_mem_initList e (List.mem_of_getElem? he)) ha hlt (endsAs_finish .init _)

/-- Events 14 and 15 of INIT (40_init.md R102). -/
theorem endsAs_initRh (s : State) : EndsAs .init 14 s (.next (initRh s)) := by
  have hopen : (eventList .init)[14]? = some (.openDevice .rh) := rfl
  have hreset : (eventList .init)[15]? = some (.command 0xFE#8) := rfl
  have hopened : s.exchange (.busOpen (s.cfg.addr .rh)) = (BusStep.openDevice .rh).exchanged s := rfl
  have hsent (w : State) : w.exchange (.busWrite (w.cfg.addr .rh) 0xFE#8) = (BusStep.command 0xFE#8).exchanged w := rfl
  unfold initRh
  simp only [hopened, hsent]
  split_ifs with ha ha'
  · exact .of_done hopen (.openDevice _ ha) (.of_done hreset (.resetRh ha') (endsAs_finish .init _))
  · exact .of_done hopen (.openDevice _ ha) (endsAs_initFail hreset (eq_false_of_ne_true ha'))
  · exact endsAs_initFail hopen (eq_false_of_ne_true ha)

/-- The PROM commands go to the TP sub-device. -/
theorem promCommand_device : ∀ k < 6, promCommand k ≠ 0xFE#8 ∧ commandDevice (promCommand k) = .tp := by decide

/-- One turn of the PROM loop: its command and its read (40_init.md R102). -/
theorem endsAs_initProm_cons {k : Nat} (hk : k < 6) {rest : List Nat} (s : State)
    (hrest : ∀ m, EndsAs .init (4 + 2 * k) m (.next (initProm rest m))) :
    EndsAs .init (2 + 2 * k) s (.next (initProm (k :: rest) s)) := by
  obtain ⟨-, -, -, -, -, hcommand, hread⟩ := promCommandsInClosedForm k hk
  obtain ⟨hne, hdev⟩ := promCommand_device k hk
  have hsent : s.exchange (.busWrite (s.cfg.addr .tp) (promCommand k))
      = (BusStep.command (promCommand k)).exchanged s := by
    rw [BusStep.exchanged, eventOf_command, hdev]
  have hgot (w : State) : w.exchange (.busRead (w.cfg.addr .tp) 2) = (BusStep.readCal k).exchanged w := rfl
  have hread : (eventList .init)[2 + 2 * k + 1]? = some (.readCal k) := by rw [← hread, Nat.add_right_comm]; rfl
  unfold initProm
  simp only [hsent, hgot]
  split_ifs with ha
  · refine .of_done hcommand (.command hne ha) ?_
    cases hword : answer16 ((BusStep.command (promCommand k)).exchanged s).answer with
    | none => exact endsAs_initFail hread (answer16_eq_none.mp hword)
    | some v =>
      refine .of_done hread (.readCal k v hword) ?_
      rw [show 2 + 2 * k + 1 + 1 = 4 + 2 * k by omega]
      exact hrest _
  · exact endsAs_initFail hcommand (eq_false_of_ne_true ha)

/-- The PROM loop over the last `j` words (40_init.md R102). -/
theorem endsAs_initProm {j : Nat} (hj : j ≤ 6) (s : State) :
    EndsAs .init (14 - 2 * j) s (.next (initProm (List.range' (6 - j) j) s)) := by
  induction j generalizing s with
  | zero => exact endsAs_initRh s
  | succ j ih =>
    have hturn := endsAs_initProm_cons (k := 5 - j) (rest := List.range' (6 - j) j) (by omega) s
      (by rw [show 4 + 2 * (5 - j) = 14 - 2 * j by omega]; exact ih (by omega))
    rw [List.range'_succ, show 14 - 2 * (j + 1) = 2 + 2 * (5 - j) by omega, show 6 - (j + 1) = 5 - j by omega,
      show 5 - j + 1 = 6 - j by omega]
    exact hturn

/-- INIT after its start (40_init.md R102). -/
theorem endsAs_referenceInit (s : State) : EndsAs .init 0 s (.next (referenceInit s)) := by
  have hopen : (eventList .init)[0]? = some (.openDevice .tp) := rfl
  have hreset : (eventList .init)[1]? = some (.command 0x1E#8) := rfl
  have hopened : s.exchange (.busOpen (s.cfg.addr .tp)) = (BusStep.openDevice .tp).exchanged s := rfl
  have hsent (w : State) : w.exchange (.busWrite (w.cfg.addr .tp) 0x1E#8) = (BusStep.command 0x1E#8).exchanged w := rfl
  unfold referenceInit
  simp only [hopened, hsent]
  split_ifs with ha ha'
  · exact .of_done hopen (.openDevice _ ha) (.of_done hreset (.command (by decide) ha') (endsAs_initProm le_rfl _))
  · exact .of_done hopen (.openDevice _ ha) (endsAs_initFail hreset (eq_false_of_ne_true ha'))
  · exact endsAs_initFail hopen (eq_false_of_ne_true ha)

end Sys2Proof.Machine
end

section
/-! The six operations: the sequencer, one event a step, does what their pseudocode does (Reference.lean). Then INIT
answered ok throughout, by its pseudocode. -/

namespace Sys2Proof.Machine

variable {s t : State} {o : Op} {f : FirstOrder}

theorem State.keepFirstOrder_getTh (ho : s.op = some .getTh) : s.keepFirstOrder f = s.writeTOnly f := by
  simp [State.keepFirstOrder, ho]

theorem State.keepFirstOrder_of_ne (ho : s.op ≠ some .getTh) : s.keepFirstOrder f = s.writeFirstOrder f := by
  unfold State.keepFirstOrder
  split
  · contradiction
  · rfl

/-- The composites correct humidity with the operation's own `RES_T` (44_composite.md R186, R188). -/
theorem correctingTemperature_of_ne (ho : s.op ≠ some .getRh) :
    correctingTemperature s = if s.status.vT then s.res.t else none := by
  unfold correctingTemperature
  split
  · contradiction
  · rfl

theorem endsAs_referenceGetT (ho : s.op = some .getT) : EndsAs .getT 0 s (referenceGetT s) := by
  refine endsAs_acqT rfl (fun got h _ _ => ?_) (fun v got h hf => ?_) fun v got f h hf hop => ?_
  · simp only [referenceGetT, h]
    exact endsAs_finish .getT got
  · simp [referenceGetT, h, hf]
  · rw [State.keepFirstOrder_of_ne (by simp [hop, ho])]
    simp only [referenceGetT, h, hf]
    exact endsAs_finish .getT _

theorem endsAs_referenceGetTp (ho : s.op = some .getTp) : EndsAs .getTp 0 s (referenceGetTp s) := by
  refine endsAs_acqT rfl (fun got h _ _ => ?_) (fun v got h hf => ?_) fun v got f h hf hop => ?_
  · simp only [referenceGetTp, h]
    exact endsAs_finish .getTp got
  · simp [referenceGetTp, h, hf]
  · rw [State.keepFirstOrder_of_ne (by simp [hop, ho])]
    simp only [referenceGetTp, h, hf]
    exact endsAs_acqP rfl rfl rfl fun mid _ _ _ => endsAs_finish .getTp mid

theorem endsAs_referenceGetRh (ho : s.op = some .getRh) : EndsAs .getRh 0 s (referenceGetRh s) :=
  endsAs_acqRh rfl (by simp [correctingTemperature, ho])

theorem endsAs_referenceGetTph (ho : s.op = some .getTph) (hfresh : s.status.vT = false) :
    EndsAs .getTph 0 s (referenceGetTph s) := by
  refine endsAs_acqT rfl (fun got h hop hvT => ?_) (fun v got h hf => ?_) fun v got f h hf hop => ?_
  · simp only [referenceGetTph, h]
    exact endsAs_acqRh rfl (by simp [correctingTemperature_of_ne, hop, ho, hvT, hfresh])
  · simp [referenceGetTph, h, hf]
  · rw [State.keepFirstOrder_of_ne (by simp [hop, ho])]
    simp only [referenceGetTph, h, hf]
    refine endsAs_acqP rfl rfl rfl fun mid hop' ht hvT => ?_
    exact endsAs_acqRh rfl (by simp [correctingTemperature_of_ne, hop', hop, ho, ht, hvT])

theorem endsAs_referenceGetTh (ho : s.op = some .getTh) (hfresh : s.status.vT = false) :
    EndsAs .getTh 0 s (referenceGetTh s) := by
  refine endsAs_acqT rfl (fun got h hop hvT => ?_) (fun v got h hf => ?_) fun v got f h hf hop => ?_
  · simp only [referenceGetTh, h]
    exact endsAs_acqRh rfl (by simp [correctingTemperature_of_ne, hop, ho, hvT, hfresh])
  · simp [referenceGetTh, h, hf]
  · rw [State.keepFirstOrder_getTh (by simp [hop, ho])]
    simp only [referenceGetTh, h, hf]
    exact endsAs_acqRh rfl (by simp [correctingTemperature_of_ne, hop, ho])

/-- Every operation, from its acceptance. -/
theorem endsAs_referenceOperation (ho : s.op = some o) (hfresh : s.status.vT = false) :
    EndsAs o 0 s (referenceOperation o s) := by
  cases o with
  | init => exact endsAs_referenceInit s
  | getT => exact endsAs_referenceGetT ho
  | getTp => exact endsAs_referenceGetTp ho
  | getRh => exact endsAs_referenceGetRh ho
  | getTph => exact endsAs_referenceGetTph ho hfresh
  | getTh => exact endsAs_referenceGetTh ho hfresh

/-- A running operation at its first event, with nothing obtained yet, ends within 16 steps as its pseudocode does. -/
theorem runSteps_eq_referenceOperation (h : InOperation o s) (hseq : s.seq = 0) (hfresh : s.status.vT = false) :
    runSteps 16 s = referenceOperation o s := by
  have hpos : 0 < (eventList o).length ∧ (eventList o).length ≤ 16 := by cases o <;> decide
  have hgo : s.goTo 0 = s := by
    obtain ⟨ho, -⟩ := h
    have hat : s.atSeq 0 = s := by rw [← hseq]; rfl
    rw [State.goTo, hat]
    simp only [State.settle, ho]
    exact if_neg (by omega)
  simpa [hgo] using endsAs_referenceOperation h.1 hfresh h 16 (by omega)

/-- An accepted request starts its operation. -/
theorem inOperation_of_accepted {i : Instr} {arg : Option Rat}
    (hi : (i = .init ∧ o = .init ∧ arg = none) ∨ Claims.measurement i = some (o, arg))
    (hidle : s.status.busy = false) (hs : s.schedule = []) (h : exec i s = .next t) (hbusy : t.status.busy = true) :
    InOperation o t ∧ t.seq = 0 ∧ t.status.vT = false := by
  obtain ⟨rfl, rfl, rfl⟩ | hi := hi
  · obtain rfl := Host.Outcome.next.inj ((initStartsFresh s hidle).symm.trans h)
    exact ⟨⟨rfl, rfl, hs⟩, rfl, rfl⟩
  · obtain ⟨hexec, -⟩ := exec_measurement hi s
    obtain rfl := Host.Outcome.next.inj (hexec.symm.trans h)
    obtain ⟨hbusy', -⟩ | ⟨-, -, hadmit⟩ | ⟨-, -, hadmit⟩ := admitMeasurement_cases o arg s
    · simp [hidle] at hbusy'
    · simp [hadmit, Status.withFault, hidle] at hbusy
    · rw [hadmit]
      exact ⟨⟨rfl, rfl, hs⟩, rfl, rfl⟩

/-- Settles O58: an accepted operation stands at its first event, and from there the sequencer runs the pseudocode part
by part. -/
theorem sequencerRunsThePseudocode : Obligations.SequencerRunsThePseudocode := by
  intro s t i o arg hi hidle hs h hbusy
  obtain ⟨hin, hseq, hfresh⟩ := inOperation_of_accepted hi hidle hs h hbusy
  exact runSteps_eq_referenceOperation hin hseq hfresh

/-! ### INIT answered ok throughout -/

/-- The start of INIT answered ok (40_init.md R102). -/
theorem referenceInit_of_script {rest : List BusAnswer} (h : s.script = .ok [] :: .ok [] :: rest) :
    referenceInit s = initProm [0, 1, 2, 3, 4, 5] { s with
      hTp := true, script := rest
      history := s.history ++ [{ event := .busOpen s.cfg.addrTp, answer := .ok [] },
        { event := .busWrite s.cfg.addrTp 0x1E#8, answer := .ok [] }] } := by
  simp [referenceInit, State.exchange, State.record, State.consume, State.answer, State.setHandle, h, answerOk,
    Config.addr]

/-- One turn of the PROM loop answered ok reads one word, big-endian (40_init.md R102, R105). -/
theorem initProm_of_script {k : Nat} {ks : List Nat} {hi lo : Byte} {rest : List BusAnswer}
    (h : s.script = .ok [] :: .ok [hi, lo] :: rest) :
    initProm (k :: ks) s = initProm ks (State.writeCal k (be16 hi lo)
      { s with script := rest, history := s.history ++ Claims.promRead s.cfg (promCommand k) hi lo }) := by
  simp [initProm, State.exchange, State.record, State.consume, State.answer, h, answerOk, answer16, Claims.promRead,
    Config.addr]

/-- The end of INIT answered ok (40_init.md R102). -/
theorem initRh_of_script {rest : List BusAnswer} (h : s.script = .ok [] :: .ok [] :: rest) :
    initRh s = finishOperation .init (State.setReady { s with
      hRh := true, script := rest
      history := s.history ++ [{ event := .busOpen s.cfg.addrRh, answer := .ok [] },
        { event := .busWrite s.cfg.addrRh 0xFE#8, answer := .ok [] }] }) := by
  simp [initRh, State.exchange, State.record, State.consume, State.answer, State.setHandle, h, answerOk, Config.addr]

/-- Settles O21: the sequencer runs the pseudocode, which takes the script's answers one after the other. -/
theorem initLoadsTheCalibration : Obligations.InitLoadsTheCalibration := by
  intro s h0 l0 h1 l1 h2 l2 h3 l3 h4 l4 h5 l5 rest hidle hs hscript
  have hexec := initStartsFresh s hidle
  have hruns := sequencerRunsThePseudocode s _ .init .init none (.inl ⟨rfl, rfl, rfl⟩) hidle hs hexec rfl
  refine ⟨_, hexec, hruns.trans (congrArg Host.Outcome.next ?_)⟩
  refine (referenceInit_of_script (by exact hscript)).trans ?_
  iterate 6 rw [initProm_of_script rfl]
  rw [initProm, initRh_of_script rfl]
  rfl

end Sys2Proof.Machine
end

section
/-! FIRST_ORDER (41_temperature.md R122) in fixed point (R126): the ranges of its inputs, the scale of `TEMP` and `T`, and
the widths that hold the numerators. -/

namespace Sys2Proof.Machine

variable {c4 c5 : Word16} {dT : Int}

/-! ### Ranges -/

theorem rawInt_range {w : Nat} (v : BitVec w) : 0 ≤ rawInt v ∧ rawInt v < 2 ^ w :=
  ⟨Int.natCast_nonneg _, by unfold rawInt; exact_mod_cast v.isLt⟩

/-- The range of `dT` over all samples and calibrations (41_temperature.md R126). -/
theorem deltaT_range (c4 : Word16) (d2 : Word24) : -16776960 ≤ deltaT c4 d2 ∧ deltaT c4 d2 ≤ 16777215 := by
  obtain ⟨hc4, hc4'⟩ := rawInt_range c4
  obtain ⟨hd2, hd2'⟩ := rawInt_range d2
  unfold deltaT kTrefShift
  omega

/-- The range of `X`, a product with one factor that has no sign (41_temperature.md R126). -/
theorem fixX_range (c5 : Word16) (h : -16776960 ≤ dT ∧ dT ≤ 16777215) :
    -1099478073600 ≤ fixX c5 dT ∧ fixX c5 dT ≤ 1099494785025 := by
  obtain ⟨hmin, hmax⟩ := h
  obtain ⟨hc5, hc5'⟩ := rawInt_range c5
  have hlow : -16776960 * rawInt c5 ≤ fixX c5 dT := Int.mul_le_mul_of_nonneg_right hmin hc5
  have hhigh : fixX c5 dT ≤ 16777215 * rawInt c5 := Int.mul_le_mul_of_nonneg_right hmax hc5
  omega

/-! ### Scales -/

/-- `TEMP` is `TEMPn` at the scale 2^-23 (41_temperature.md R126). -/
theorem firstTemp_eq_fixTemp (c5 : Word16) (dT : Int) : firstTemp c5 dT = (fixTemp c5 dT : Rat) / 2 ^ 23 := by
  have hc5 : (rawInt c5 : Rat) = rawRat c5 := Int.cast_natCast _
  simp only [firstTemp, fixTemp, fixX, Int.cast_add, Int.cast_mul, hc5, kTemp0, kTsensDiv]
  ring

/-- `T` is `TEMPn` at the scale 1 / (100 * 2^23) (41_temperature.md R126). -/
theorem firstTemp_div_eq_fixTemp (c5 : Word16) (dT : Int) :
    firstTemp c5 dT / kTDiv = (fixTemp c5 dT : Rat) / 838860800 := by
  rw [firstTemp_eq_fixTemp, kTDiv]
  ring

/-- Settles O39: the ranges follow from those of the raw words, and the widths from the ranges. -/
theorem firstOrderIsExactInFixedPoint : Obligations.FirstOrderIsExactInFixedPoint := by
  rintro c4 c5 d2 dT rfl
  obtain ⟨hmin, hmax⟩ := deltaT_range c4 d2
  obtain ⟨hlow, hhigh⟩ := fixX_range c5 (deltaT_range c4 d2)
  refine ⟨firstTemp_eq_fixTemp c5 _, firstTemp_div_eq_fixTemp c5 _, hlow, hhigh, ?_⟩
  simp only [firstOrder, fitsSigned, fixTemp]
  omega

end Sys2Proof.Machine
end

section
/-! A command whose write is answered with an error (20_memory.md R52, 60_exceptions.md R202): the flag of its phase, and
where the operation goes on (10_state.md R33). Then the convert-temperature command (41_temperature.md R121). -/

namespace Sys2Proof.Machine

variable {s : State} {o : Op} {ph : Phase} {c : Byte} {i : Instr}

/-- The state that an error in a phase leaves: its flag, and `seq` where the operation resumes or ends. -/
theorem State.failPhase_of_op (ho : s.op = some o) :
    s.failPhase ph = { s with
      status := { s.status.withError ph with
        busy := s.status.busy && decide (resumeAt o ph < (eventList o).length) }
      seq := resumeAt o ph } := by
  by_cases hend : (eventList o).length ≤ resumeAt o ph
  · simp [State.failPhase, State.jump, State.settle, State.complete, ho, hend, Nat.not_lt.mpr hend]
  · simp only [State.failPhase, State.jump, State.settle, ho, hend, if_false, Nat.lt_of_not_le hend, decide_true,
      Bool.and_true]
    rw [← Status.withError_busy ph]

/-- A command answered with an error is recorded and ends its phase. -/
theorem exec_command_of_error (hi : decodeCommand c = .instr i) (hn : s.nextEvent = some (.command c))
    (ho : s.op = some o) (ha : answerOk 0 s.answer = false) :
    exec i s = .next { s.consume with
      status := { s.status.withError (commandPhase c) with
        busy := decide (resumeAt o (commandPhase c) < (eventList o).length) }
      seq := resumeAt o (commandPhase c)
      history := s.history ++ [Claims.wrote (commandDevice c) c s] } := by
  obtain ⟨hbusy, -⟩ := State.nextEvent_eq_some.mp hn
  rw [← runCommand_of_decodeCommand hi]
  refine (runEvent_of_error hn (ph := commandPhase c) rfl ha).trans ?_
  rw [State.failPhase_of_op (o := o) (by simpa [BusStep.exchanged] using ho)]
  simp [BusStep.exchanged, State.exchange, State.record, eventOf_command, Claims.wrote, hbusy]

/-- Settles O33: the command runs in four operations, each with its own place to resume. -/
theorem failedConvertTemperatureEndsItsPhase : Obligations.FailedConvertTemperatureEndsItsPhase := by
  intro s hn ha
  obtain ⟨-, o, ho, he⟩ := State.nextEvent_eq_some.mp hn
  obtain ⟨-, hops⟩ : Phase.spans o s.seq .acqT := spans_of_standsAt (standsAt_of_getElem? he) rfl
  refine ⟨_, _, exec_command_of_error rfl hn ho ha, ?_⟩
  rw [ho]
  rcases hops with rfl | rfl | rfl | rfl <;> decide

end Sys2Proof.Machine
end

section
/-! The pseudocode of a conversion whose events all answer ok, on the script's answers (41_temperature.md R121). Then GET_T
from its request to its completion (R122, R124). -/

namespace Sys2Proof.Machine

variable {s : State} {o : Op} {arg : Option Rat} {i : Instr} {c4 c5 : Word16} {d2 : Word24} {dT : Int} {temp : Rat}
  {b0 b1 b2 : Byte} {rest : List BusAnswer}

/-- An idle block in READY accepts a measurement request (60_exceptions.md R209). -/
theorem exec_measurement_accepted (hi : Claims.measurement i = some (o, arg)) (hidle : s.status.busy = false)
    (hready : s.status.state = .ready) : exec i s = .next (Claims.accepted o arg s) := by
  obtain ⟨hexec, -⟩ := exec_measurement hi s
  rw [hexec]
  obtain ⟨hbusy, -⟩ | ⟨-, hnot, -⟩ | ⟨-, -, hadmit⟩ := admitMeasurement_cases o arg s
  · simp [hidle] at hbusy
  · exact absurd hready hnot
  · exact congrArg Host.Outcome.next hadmit

/-- An accepted measurement that no host turn interrupts runs as its pseudocode, in as many steps as it has events. -/
theorem measurement_runs_reference {k : Nat} (hi : Claims.measurement i = some (o, arg))
    (hidle : s.status.busy = false) (hready : s.status.state = .ready) (hs : s.schedule = [])
    (hk : (eventList o).length ≤ k) :
    exec i s = .next (Claims.accepted o arg s)
      ∧ runSteps k (Claims.accepted o arg s) = referenceOperation o (Claims.accepted o arg s) := by
  have hfirst : (Claims.accepted o arg s).goTo 0 = Claims.accepted o arg s := by cases o <;> rfl
  have hends : EndsAs o 0 (Claims.accepted o arg s) _ := endsAs_referenceOperation rfl rfl
  have hruns := hends ⟨rfl, rfl, hs⟩ k (by omega)
  rw [hfirst] at hruns
  exact ⟨exec_measurement_accepted hi hidle hready, hruns⟩

/-- Converting and reading answered ok yields the sample, big-endian (41_temperature.md R121, 42_pressure.md R142). -/
theorem convertAndRead_of_script (c : Byte) (ph : Phase) (h : s.script = .ok [] :: .ok [b0, b1, b2] :: rest) :
    convertAndRead c ph s = (some (be24 b0 b1 b2),
      { s with script := rest, history := s.history ++ Claims.converted s.cfg c b0 b1 b2 }) := by
  simp [convertAndRead, State.exchange, State.record, State.consume, State.answer, h, answerOk, answer24,
    Claims.converted, Config.addr]

/-- FIRST_ORDER by the formulas of 41_temperature.md R122. -/
theorem firstOrder_eq (hdT : dT = (d2.toNat : Int) - (c4.toNat : Int) * 2 ^ 8)
    (htemp : temp = 2000 + (dT : Rat) * (c5.toNat : Rat) / 2 ^ 23) :
    firstOrder c4 c5 d2 = { t := temp / 100, temp := temp, dt := dT } := by
  have hdelta : deltaT c4 d2 = dT := by
    rw [hdT]
    rfl
  have hfirst : firstTemp c5 dT = temp := by
    rw [htemp, firstTemp, kTsensDiv]
    norm_num [rawRat]
  rw [firstOrder, hdelta, hfirst]

/-- Settles O23: GET_T runs its pseudocode, whose sample goes through FIRST_ORDER. -/
theorem getTMeasuresTemperature : Obligations.GetTMeasuresTemperature := by
  intro s c4 c5 b0 b1 b2 rest hidle hready hs hc4 hc5 hscript dT temp hdT htemp
  obtain ⟨hexec, hruns⟩ := measurement_runs_reference (i := .getT) rfl hidle hready hs (le_refl 3)
  refine ⟨_, hexec, hruns.trans ?_⟩
  have hconv := convertAndRead_of_script (s := Claims.accepted .getT none s) 0x5A#8 .acqT hscript
  have hfirst : calFirstOrder s.cal (be24 b0 b1 b2) = some { t := temp / 100, temp := temp, dt := dT } := by
    simp only [calFirstOrder, hc4, hc5, firstOrder_eq hdT htemp]
  have hcal : (Claims.accepted .getT none s).cal = s.cal := rfl
  simp only [referenceOperation, referenceGetT, hconv, hcal, hfirst]
  rfl

end Sys2Proof.Machine
end

section
/-! COMPENSATE (42_pressure.md R143 to R149) in fixed point: the regime by the signs of `X` and `Y` (R151), every quantity
as its numerator over its power of two (R152), and the widths that hold the numerators (R153). -/

namespace Sys2Proof.Machine

variable {c5 : Word16} {dT : Int}

/-! ### The regime (42_pressure.md R151) -/

/-- `TEMP` is below an integer threshold exactly when `X` is below the threshold's place on the scale 2^-23. -/
theorem firstTemp_lt_iff (c5 : Word16) (dT k : Int) : firstTemp c5 dT < k ↔ fixX c5 dT < (k - 2000) * 2 ^ 23 := by
  have hscaled : firstTemp c5 dT < k ↔ fixTemp c5 dT < k * 2 ^ 23 := by
    rw [firstTemp_eq_fixTemp, div_lt_iff₀ (by norm_num)]
    exact_mod_cast Iff.rfl
  rw [hscaled, fixTemp]
  omega

theorem firstTemp_lt_low (c5 : Word16) (dT : Int) : firstTemp c5 dT < 2000 ↔ fixX c5 dT < 0 := by
  simpa using firstTemp_lt_iff c5 dT 2000

theorem firstTemp_lt_veryLow (c5 : Word16) (dT : Int) : firstTemp c5 dT < -1500 ↔ fixY c5 dT < 0 := by
  have h := firstTemp_lt_iff c5 dT (-1500)
  push_cast at h
  rw [h, fixY]
  omega

/-- `Y` is negative only where `X` is. -/
theorem fixX_neg_of_fixY_neg (h : fixY c5 dT < 0) : fixX c5 dT < 0 := by
  unfold fixY at h
  omega

/-- `X` is negative only by a negative `dT`: a calibration word has no sign (42_pressure.md R151). -/
theorem neg_of_fixX_neg (h : fixX c5 dT < 0) : dT < 0 ∧ 0 < c5.toNat := by
  obtain ⟨-, hc5⟩ | ⟨hdT, hc5⟩ := mul_neg_iff.mp h
  · exact absurd hc5 (rawInt_range c5).1.not_gt
  · exact ⟨hdT, Int.natCast_pos.mp hc5⟩

/-- The second-order terms by the signs of `X` and `Y`, each as its numerator over its power of two (42_pressure.md R151,
R152). -/
theorem secondOrder_eq_fix (c5 : Word16) (dT : Int) :
    secondOrder dT (firstTemp c5 dT) =
      { regime := fixRegime c5 dT, t2 := (fixT2 c5 dT : Rat) / 2 ^ 38, off2 := (fixOff2 c5 dT : Rat) / 2 ^ 50
        sens2 := (fixSens2 c5 dT : Rat) / 2 ^ 50 } := by
  have hX : firstTemp c5 dT - 2000 = (fixX c5 dT : Rat) / 2 ^ 23 := by
    rw [firstTemp_eq_fixTemp, fixTemp]
    push_cast
    ring
  have hY : firstTemp c5 dT + 1500 = (fixY c5 dT : Rat) / 2 ^ 23 := by
    rw [firstTemp_eq_fixTemp, fixTemp, fixY]
    push_cast
    ring
  simp only [secondOrder, firstTemp_lt_veryLow, firstTemp_lt_low, fixRegime, fixT2, fixOff2, fixSens2]
  by_cases hy : fixY c5 dT < 0
  · have hx := fixX_neg_of_fixY_neg hy
    simp only [hy, hx, if_true, secondVeryLow, secondLow, hX, hY]
    push_cast
    congr 1 <;> ring
  · by_cases hx : fixX c5 dT < 0
    · simp only [hy, hx, if_true, if_false, secondLow, hX]
      push_cast
      congr 1 <;> ring
    · simp only [hy, hx, if_false, secondHigh]
      push_cast
      congr 1 <;> ring

/-- Settles O40: a threshold on `TEMP` is one on `X`, and the regime is chosen by these. -/
theorem regimeFromTheSignsOfXAndY : Obligations.RegimeFromTheSignsOfXAndY := by
  intro c5 dT
  refine ⟨firstTemp_lt_low c5 dT, ?_, by rw [secondOrder_eq_fix], neg_of_fixX_neg⟩
  rw [firstTemp_lt_veryLow, fixY]
  omega

/-! ### The fractions (42_pressure.md R152) -/

theorem rawInt_cast {w : Nat} (v : BitVec w) : (rawInt v : Rat) = rawRat v := Int.cast_natCast _

theorem offset_eq_fixOff (c1 c3 : Word16) (dT : Int) : offset c1 c3 dT = (fixOff c1 c3 dT : Rat) / 2 ^ 6 := by
  rw [offset, fixOff]
  push_cast [rawInt_cast]
  ring

theorem sensitivity_eq_fixSens (c0 c2 : Word16) (dT : Int) :
    sensitivity c0 c2 dT = (fixSens c0 c2 dT : Rat) / 2 ^ 7 := by
  rw [sensitivity, fixSens]
  push_cast [rawInt_cast]
  ring

/-- `TEMPC` on the common scale of `TEMP` and `T2`. -/
theorem firstTemp_sub_eq_fixTempc (c5 : Word16) (dT : Int) :
    firstTemp c5 dT - (fixT2 c5 dT : Rat) / 2 ^ 38 = (fixTempc c5 dT : Rat) / 2 ^ 38 := by
  rw [firstTemp_eq_fixTemp, fixTempc]
  push_cast
  ring

/-- `OFFC` on the common scale of `OFF` and `OFF2`. -/
theorem offset_sub_eq_fixOffc (c1 c3 c5 : Word16) (dT : Int) :
    offset c1 c3 dT - (fixOff2 c5 dT : Rat) / 2 ^ 50 = (fixOffc c1 c3 c5 dT : Rat) / 2 ^ 50 := by
  rw [offset_eq_fixOff, fixOffc]
  push_cast
  ring

/-- `SENSC` on the common scale of `SENS` and `SENS2`. -/
theorem sensitivity_sub_eq_fixSensc (c0 c2 c5 : Word16) (dT : Int) :
    sensitivity c0 c2 dT - (fixSens2 c5 dT : Rat) / 2 ^ 50 = (fixSensc c0 c2 c5 dT : Rat) / 2 ^ 50 := by
  rw [sensitivity_eq_fixSens, fixSensc]
  push_cast
  ring

theorem pressure_eq_fixP (c0 c1 c2 c3 c5 : Word16) (d1 : Word24) (dT : Int) :
    pressure d1 ((fixSensc c0 c2 c5 dT : Rat) / 2 ^ 50) ((fixOffc c1 c3 c5 dT : Rat) / 2 ^ 50)
      = (fixP c0 c1 c2 c3 c5 d1 dT : Rat) / (100 * 2 ^ 86) := by
  rw [pressure, fixP]
  push_cast [rawInt_cast]
  ring

/-- Settles O41, quantity by quantity. -/
theorem compensateIsExactInFixedPoint : Obligations.CompensateIsExactInFixedPoint := by
  rintro c0 c1 c2 c3 c5 d1 dT r rfl
  simp only [compensate, secondOrder_eq_fix]
  refine ⟨offset_eq_fixOff c1 c3 dT, sensitivity_eq_fixSens c0 c2 dT, trivial, trivial, trivial,
    firstTemp_sub_eq_fixTempc c5 dT, offset_sub_eq_fixOffc c1 c3 c5 dT, sensitivity_sub_eq_fixSensc c0 c2 c5 dT, ?_⟩
  rw [sensitivity_sub_eq_fixSensc, offset_sub_eq_fixOffc, pressure_eq_fixP]

/-! ### The widths (42_pressure.md R153) -/

section Ranges

variable (h : -16776960 ≤ dT ∧ dT ≤ 16777215)

include h

/-- The product with a calibration word has the range of `X`. -/
theorem fixOff_range (c1 c3 : Word16) : -2 ^ 40 ≤ fixOff c1 c3 dT ∧ fixOff c1 c3 dT < 3 * 2 ^ 39 := by
  obtain ⟨hc1, hc1'⟩ := rawInt_range c1
  obtain ⟨hlow, hhigh⟩ := fixX_range c3 h
  rw [fixX, mul_comm] at hlow hhigh
  unfold fixOff
  omega

/-- `SENSn` is `OFFn` of two other calibration words. -/
theorem fixSens_range (c0 c2 : Word16) : -2 ^ 40 ≤ fixSens c0 c2 dT ∧ fixSens c0 c2 dT < 3 * 2 ^ 39 :=
  fixOff_range h c0 c2

theorem fixT2_range (c5 : Word16) : 0 ≤ fixT2 c5 dT ∧ fixT2 c5 dT ≤ 96 * 16777215 ^ 2 := by
  have hnonneg := sq_nonneg dT
  have hsq : dT ^ 2 ≤ 16777215 ^ 2 := sq_le_sq' (by omega) h.2
  unfold fixT2
  split <;> omega

theorem fixTempc_range (c5 : Word16) : -2 ^ 56 ≤ fixTempc c5 dT ∧ fixTempc c5 dT < 2 ^ 56 := by
  have hx := fixX_range c5 h
  have ht2 := fixT2_range h c5
  unfold fixTempc fixTemp
  omega

/-- `X`, and `Y` where it is negative, lie within `2 ^ 40` of 0. -/
theorem fixX_fixY_sq_range (c5 : Word16) :
    0 ≤ fixX c5 dT ^ 2 ∧ fixX c5 dT ^ 2 ≤ (2 ^ 40) ^ 2
    ∧ 0 ≤ fixY c5 dT ^ 2 ∧ (fixY c5 dT < 0 → fixY c5 dT ^ 2 ≤ (2 ^ 40) ^ 2) := by
  obtain ⟨hlow, hhigh⟩ := fixX_range c5 h
  have hY : fixX c5 dT ≤ fixY c5 dT := by
    unfold fixY
    omega
  exact ⟨sq_nonneg _, sq_le_sq' (by omega) (by omega), sq_nonneg _, fun hy => sq_le_sq' (by omega) (by omega)⟩

theorem fixOff2_range (c5 : Word16) : 0 ≤ fixOff2 c5 dT ∧ fixOff2 c5 dT ≤ 333 * 2 ^ 80 := by
  have hsq := fixX_fixY_sq_range h c5
  unfold fixOff2
  split_ifs with hy hx <;> omega

theorem fixSens2_range (c5 : Word16) : 0 ≤ fixSens2 c5 dT ∧ fixSens2 c5 dT ≤ 173 * 2 ^ 80 := by
  have hsq := fixX_fixY_sq_range h c5
  unfold fixSens2
  split_ifs with hy hx <;> omega

theorem fixOffc_range (c1 c3 c5 : Word16) :
    -349 * 2 ^ 80 ≤ fixOffc c1 c3 c5 dT ∧ fixOffc c1 c3 c5 dT < 24 * 2 ^ 80 := by
  have hoff := fixOff_range h c1 c3
  have hoff2 := fixOff2_range h c5
  unfold fixOffc
  omega

theorem fixSensc_range (c0 c2 c5 : Word16) :
    -181 * 2 ^ 80 ≤ fixSensc c0 c2 c5 dT ∧ fixSensc c0 c2 c5 dT < 12 * 2 ^ 80 := by
  have hsens := fixSens_range h c0 c2
  have hsens2 := fixSens2_range h c5
  unfold fixSensc
  omega

/-- `D1` has no sign and is below `2 ^ 24`, so its product with `SENSCn` keeps the signs of the range of `SENSCn`. -/
theorem fixP_range (c0 c1 c2 c3 c5 : Word16) (d1 : Word24) :
    -1472 * 2 ^ 101 ≤ fixP c0 c1 c2 c3 c5 d1 dT ∧ fixP c0 c1 c2 c3 c5 d1 dT ≤ 445 * 2 ^ 101 := by
  obtain ⟨hd1, hd1'⟩ := rawInt_range d1
  obtain ⟨hsensc, hsensc'⟩ := fixSensc_range h c0 c2 c5
  have hoffc := fixOffc_range h c1 c3 c5
  have hlow : rawInt d1 * (-181 * 2 ^ 80) ≤ rawInt d1 * fixSensc c0 c2 c5 dT := mul_le_mul_of_nonneg_left hsensc hd1
  have hhigh : rawInt d1 * fixSensc c0 c2 c5 dT ≤ rawInt d1 * (12 * 2 ^ 80) :=
    mul_le_mul_of_nonneg_left hsensc'.le hd1
  unfold fixP
  omega

end Ranges

/-- Settles O42: each width holds its numerator's range over all inputs. -/
theorem fixedPointWidthsSuffice : Obligations.FixedPointWidthsSuffice := by
  rintro c0 c1 c2 c3 c4 c5 d1 d2 dT rfl
  have h := deltaT_range c4 d2
  have hoff := fixOff_range h c1 c3
  have hsens := fixSens_range h c0 c2
  have ht2 := fixT2_range h c5
  have hoff2 := fixOff2_range h c5
  have hsens2 := fixSens2_range h c5
  have htempc := fixTempc_range h c5
  have hoffc := fixOffc_range h c1 c3 c5
  have hsensc := fixSensc_range h c0 c2 c5
  have hp := fixP_range h c0 c1 c2 c3 c5 d1
  unfold fitsSigned
  omega

end Sys2Proof.Machine
end

section
/-! An event answered with an error (20_memory.md R52, 60_exceptions.md R202, R203): its phase's flag, and where the
operation goes on (10_state.md R33). Then the convert-pressure command and the reads of the samples (41_temperature.md R121,
42_pressure.md R142, 43_humidity.md R171). -/

namespace Sys2Proof.Machine

variable {s : State} {o : Op} {e : BusStep} {ph : Phase} {f : FirstOrder} {a : BusAnswer}
  {a0 a1 a2 : Byte} {rest : List BusAnswer}

/-- ACQ_P resumes at event 6: ACQ_RH of GET_TPH, and the end of GET_TP (42_pressure.md R141, 44_composite.md R186). -/
theorem acqP_resumes (hn : s.nextEvent = some e) (hph : e.phase = some .acqP) :
    ∃ o, s.op = some o ∧ resumeAt o .acqP = 6
      ∧ (s.op = some .getTp → decide (6 < (eventList o).length) = false)
      ∧ (s.op = some .getTph → decide (6 < (eventList o).length) = true) := by
  obtain ⟨-, o, ho, he⟩ := State.nextEvent_eq_some.mp hn
  obtain ⟨-, -, hops⟩ : Phase.spans o s.seq .acqP := spans_of_standsAt (standsAt_of_getElem? he) hph
  refine ⟨o, ho, ?_⟩
  rw [ho]
  rcases hops with rfl | rfl <;> decide

/-- Settles O34: the command runs in two operations, which resume at event 6. -/
theorem failedConvertPressureEndsItsPhase : Obligations.FailedConvertPressureEndsItsPhase := by
  intro s hn ha
  obtain ⟨o, ho, hresume, hlast⟩ := acqP_resumes hn rfl
  have hexec := exec_command_of_error (i := .busConvertP) rfl hn ho ha
  rw [show commandPhase 0x4A#8 = .acqP from rfl, hresume] at hexec
  exact ⟨_, hexec, hlast⟩

/-! ### A failed read -/

/-- An entry answered with an error is recorded and ends its phase. -/
theorem step_of_error (hn : s.nextEvent = some e) (hs : s.schedule = []) (ho : s.op = some o)
    (hph : e.phase = some ph) (ha : answerOk e.byteCount s.answer = false) :
    step s = .next { s.consume with
      status := { s.status.withError ph with busy := decide (resumeAt o ph < (eventList o).length) }
      seq := resumeAt o ph, history := s.history ++ [Claims.made e s] } := by
  obtain ⟨hbusy, -⟩ := State.nextEvent_eq_some.mp hn
  rw [step_of_nextEvent hn hs, runEvent_of_error hn hph ha,
    State.failPhase_of_op (o := o) (by simpa [BusStep.exchanged] using ho)]
  simp [BusStep.exchanged, State.exchange, State.record, Claims.made, hbusy]

/-- A failed read of `D2` (41_temperature.md R121, R203): four operations hold it, each with its own place to resume. -/
theorem step_readD2_error (hn : s.nextEvent = some .readD2) (hs : s.schedule = [])
    (ha : Claims.badRead 3 s.answer) :
    ∃ n b, step s = .next { s.consume with
        status := { s.status with errT := true, busy := b }
        seq := n, history := s.history ++ [Claims.made .readD2 s] }
      ∧ (s.op = some .getT → n = 3 ∧ b = false) ∧ (s.op = some .getTp → n = 6 ∧ b = false)
      ∧ (s.op = some .getTph → n = 6 ∧ b = true) ∧ (s.op = some .getTh → n = 3 ∧ b = true) := by
  obtain ⟨-, o, ho, he⟩ := State.nextEvent_eq_some.mp hn
  obtain ⟨-, hops⟩ : Phase.spans o s.seq .acqT := spans_of_standsAt (standsAt_of_getElem? he) rfl
  refine ⟨_, _, step_of_error hn hs ho (ph := .acqT) rfl (answerOk_eq_false.mpr ha), ?_⟩
  rw [ho]
  rcases hops with rfl | rfl | rfl | rfl <;> decide

/-- A failed read of `D1` (42_pressure.md R142, R203): two operations hold it, which resume at event 6. -/
theorem step_readD1_error (hn : s.nextEvent = some .readD1) (hs : s.schedule = [])
    (ha : Claims.badRead 3 s.answer) :
    ∃ b, step s = .next { s.consume with
        status := { s.status with errP := true, busy := b }
        seq := 6, history := s.history ++ [Claims.made .readD1 s] }
      ∧ (s.op = some .getTp → b = false) ∧ (s.op = some .getTph → b = true) := by
  obtain ⟨o, ho, hresume, hlast⟩ := acqP_resumes hn rfl
  have hstep := step_of_error hn hs ho (ph := .acqP) rfl (answerOk_eq_false.mpr ha)
  rw [hresume] at hstep
  exact ⟨_, hstep, hlast⟩

/-- A failed read of `D3` completes the operation (43_humidity.md R171, R203). -/
theorem step_readD3_error (hn : s.nextEvent = some .readD3) (hs : s.schedule = [])
    (ha : Claims.badRead 2 s.answer) :
    ∃ o, s.op = some o ∧ step s = .next { s.consume with
      status := { s.status with errRh := true, busy := false }
      seq := (eventList o).length, history := s.history ++ [Claims.made .readD3 s] } := by
  obtain ⟨-, o, ho, he⟩ := State.nextEvent_eq_some.mp hn
  have hops : Phase.spans o s.seq .acqRh := spans_of_standsAt (standsAt_of_getElem? he) rfl
  have hresume : resumeAt o .acqRh = (eventList o).length := by rcases hops with rfl | rfl | rfl <;> rfl
  have hstep := step_of_error hn hs ho (ph := .acqRh) rfl (answerOk_eq_false.mpr ha)
  simp only [hresume, lt_irrefl, decide_false] at hstep
  exact ⟨o, ho, hstep⟩

/-! ### GET_TP without the pressure -/

/-- A conversion whose read fails yields no sample and records its phase's error (42_pressure.md R142). -/
theorem convertAndRead_of_badRead (c : Byte) (ph : Phase) (h : s.script = .ok [] :: a :: rest)
    (ha : Claims.badRead 3 a) :
    convertAndRead c ph s = (none, State.noteError ph { s with
      script := rest
      history := s.history ++ [{ event := .busWrite s.cfg.addrTp c, answer := .ok [] },
        { event := .sleep s.cfg.convWaitMs, answer := .ok [] },
        { event := .busBlockRead s.cfg.addrTp 3, answer := a }] }) := by
  have hsample : answer24 a = none := answer24_eq_none.mpr (answerOk_eq_false.mpr ha)
  simp [convertAndRead, State.exchange, State.record, State.consume, State.answer, h, answerOk, hsample, Config.addr]

/-- GET_TP with its temperature acquired goes on to the pressure (42_pressure.md R141). -/
theorem referenceGetTp_of_script (h : s.script = .ok [] :: .ok [a0, a1, a2] :: rest)
    (hf : calFirstOrder s.cal (be24 a0 a1 a2) = some f) :
    referenceGetTp s = andThen (pressurePart f (State.writeFirstOrder f (State.writeD2 (be24 a0 a1 a2)
      { s with script := rest, history := s.history ++ Claims.converted s.cfg 0x5A#8 a0 a1 a2 })))
      (finishOperation .getTp) := by
  simp only [referenceGetTp, convertAndRead_of_script _ _ h, hf]

/-- Settles O25: the pseudocode of GET_TP ends after the failed read, and each failed read ends its own phase. -/
theorem getTpKeepsTemperatureOnPressureError : Obligations.GetTpKeepsTemperatureOnPressureError := by
  refine ⟨?_, fun s => step_readD2_error, fun s => step_readD1_error, fun s => step_readD3_error⟩
  intro s c4 c5 a0 a1 a2 a rest hidle hready hs hc4 hc5 ha hscript
  obtain ⟨hexec, hruns⟩ := measurement_runs_reference (i := .getTp) rfl hidle hready hs (le_refl 6)
  have hfirst : calFirstOrder s.cal (be24 a0 a1 a2) = some (firstOrder c4 c5 (be24 a0 a1 a2)) := by
    simp only [calFirstOrder, hc4, hc5]
  have hend := referenceGetTp_of_script (s := Claims.accepted .getTp none s) hscript hfirst
  rw [pressurePart_of_error (convertAndRead_of_badRead _ _ rfl ha)] at hend
  exact ⟨_, _, hexec, hruns.trans hend, rfl, rfl, rfl, rfl, rfl⟩

end Sys2Proof.Machine
end

section
/-! GET_TP whose six events answer ok, from its request to its completion (42_pressure.md R141 to R150). -/

namespace Sys2Proof.Machine

variable {s : State} {c0 c1 c2 c3 c4 c5 : Word16} {d1 : Word24} {dT : Int}
  {temp off sens t2 off2 sens2 : Rat} {regime : Regime} {f : FirstOrder} {b0 b1 b2 : Byte} {rest : List BusAnswer}

/-- The second-order terms are fixed by the formulas of the regime that `TEMP` selects (42_pressure.md R144 to R147). -/
theorem secondOrder_eq_of_terms (h : Claims.SecondOrderTerms dT temp t2 off2 sens2 regime) :
    secondOrder dT temp = { regime := regime, t2 := t2, off2 := off2, sens2 := sens2 } := by
  obtain ⟨hhigh, hlow, hveryLow⟩ := h
  unfold secondOrder
  split_ifs with hv hl
  · obtain ⟨rfl, rfl, rfl, rfl⟩ := hveryLow hv
    norm_num [secondVeryLow, secondLow]
  · obtain ⟨rfl, rfl, rfl, rfl⟩ := hlow ⟨not_lt.mp hv, hl⟩
    norm_num [secondLow]
  · obtain ⟨rfl, rfl, rfl, rfl⟩ := hhigh (not_lt.mp hl)
    norm_num [secondHigh]

/-- COMPENSATE by the formulas of 42_pressure.md R143 to R149. -/
theorem compensate_eq (hoff : off = (c1.toNat : Rat) * 2 ^ 17 + (c3.toNat : Rat) * (dT : Rat) / 2 ^ 6)
    (hsens : sens = (c0.toNat : Rat) * 2 ^ 16 + (c2.toNat : Rat) * (dT : Rat) / 2 ^ 7)
    (hterms : Claims.SecondOrderTerms dT temp t2 off2 sens2 regime) :
    compensate c0 c1 c2 c3 d1 dT temp =
      { p := ((d1.toNat : Rat) * (sens - sens2) / 2 ^ 21 - (off - off2)) / 2 ^ 15 / 100
        off := off, sens := sens, t2 := t2, off2 := off2, sens2 := sens2, tempc := temp - t2, regime := regime } := by
  have hoff' : offset c1 c3 dT = off := by
    rw [hoff, offset]
    norm_num [rawRat]
  have hsens' : sensitivity c0 c2 dT = sens := by
    rw [hsens, sensitivity]
    norm_num [rawRat]
  simp only [compensate, secondOrder_eq_of_terms hterms, hoff', hsens']
  norm_num [pressure, rawRat]

/-- ACQ_P answered ok, with COMPENSATE of its sample (42_pressure.md R141, R142). -/
theorem pressurePart_of_script (h : s.script = .ok [] :: .ok [b0, b1, b2] :: rest) (hc0 : s.cal.c0 = some c0)
    (hc1 : s.cal.c1 = some c1) (hc2 : s.cal.c2 = some c2) (hc3 : s.cal.c3 = some c3) :
    pressurePart f s = .next (State.writeCompensated (compensate c0 c1 c2 c3 (be24 b0 b1 b2) f.dt f.temp)
      (State.writeD1 (be24 b0 b1 b2)
        { s with script := rest, history := s.history ++ Claims.converted s.cfg 0x4A#8 b0 b1 b2 })) := by
  simp only [pressurePart, convertAndRead_of_script _ _ h, hc0, hc1, hc2, hc3]

/-- Settles O24: GET_TP runs its pseudocode, whose samples go through FIRST_ORDER and COMPENSATE. -/
theorem getTpMeasuresPressure : Obligations.GetTpMeasuresPressure := by
  intro s c0 c1 c2 c3 c4 c5 a0 a1 a2 b0 b1 b2 rest hidle hready hs hcal hscript dT temp off sens t2 off2 sens2 regime
    hdT htemp hoff hsens hterms
  obtain ⟨hexec, hruns⟩ := measurement_runs_reference (i := .getTp) rfl hidle hready hs (le_refl 6)
  have hfirst : calFirstOrder s.cal (be24 a0 a1 a2) = some { t := temp / 100, temp := temp, dt := dT } := by
    simp only [calFirstOrder, hcal, firstOrder_eq hdT htemp]
  have hend := referenceGetTp_of_script (s := Claims.accepted .getTp none s) hscript hfirst
  refine ⟨_, hexec, (hruns.trans hend).trans ?_⟩
  refine Eq.trans (congrArg (andThen · (finishOperation .getTp)) (pressurePart_of_script rfl
    (congrArg CalFile.c0 hcal) (congrArg CalFile.c1 hcal) (congrArg CalFile.c2 hcal) (congrArg CalFile.c3 hcal))) ?_
  rw [compensate_eq hoff hsens hterms]
  rfl

end Sys2Proof.Machine
end

section
/-! The humidity conversion (43_humidity.md): HUMIDITY by its formulas and in fixed point (R172, R173, R177), a failed
measure command (R171), and GET_RH from its request to its completion (R175). Then the neutral operand (R176). -/

namespace Sys2Proof.Machine

variable {s : State} {b0 b1 : Byte} {rest : List BusAnswer}

/-! ### HUMIDITY -/

/-- The uncorrected humidity `RH0` by its formula (43_humidity.md R172). -/
theorem humidity_none_eq (d3 : Word16) : humidity d3 none = -6 + 125 * (d3.toNat : Rat) / 2 ^ 16 := by
  norm_num [humidity, linearRh, rawRat]

/-- The correction is added to `RH0` (43_humidity.md R173). -/
theorem humidity_some_eq (d3 : Word16) (t : Rat) : humidity d3 (some t) = humidity d3 none + 18 / 100 * (t - 20) := rfl

/-- The reference temperature corrects nothing (43_humidity.md R176). -/
theorem humidity_neutral (d3 : Word16) : humidity d3 (some 20) = humidity d3 none := by
  rw [humidity_some_eq, sub_self, mul_zero, add_zero]

/-- `RH0` is `RH0n` at the scale 2^-16 (43_humidity.md R177). -/
theorem humidity_none_eq_fixRh (d3 : Word16) : humidity d3 none = (fixRh d3 : Rat) / 2 ^ 16 := by
  rw [humidity_none_eq, fixRh]
  push_cast [rawInt_cast, rawRat]
  ring

/-- The range of `RH0n` over all samples (43_humidity.md R177). -/
theorem fixRh_range (d3 : Word16) : -393216 ≤ fixRh d3 ∧ fixRh d3 ≤ 7798659 := by
  obtain ⟨hmin, hmax⟩ := rawInt_range d3
  unfold fixRh
  omega

/-- Settles O43: the range follows from that of the sample, and the width from the range. -/
theorem humidityIsExactInFixedPoint : Obligations.HumidityIsExactInFixedPoint := by
  intro d3 t
  obtain ⟨hmin, hmax⟩ := fixRh_range d3
  refine ⟨humidity_none_eq_fixRh d3, ?_, hmin, hmax, ?_⟩
  · rw [humidity_some_eq, humidity_none_eq_fixRh]
    ring
  · unfold fitsSigned
    omega

/-! ### A failed measure command -/

/-- Settles O35: ACQ_RH is the last phase of every operation that holds the command. -/
theorem failedMeasureHumidityEndsTheOperation : Obligations.FailedMeasureHumidityEndsTheOperation := by
  intro s hn ha
  obtain ⟨-, o, ho, he⟩ := State.nextEvent_eq_some.mp hn
  obtain ⟨-, -, hresume⟩ := acqRh_last he
  have hexec := exec_command_of_error (i := .busMeasureRh) rfl hn ho ha
  rw [show commandPhase 0xE5#8 = .acqRh from rfl, hresume] at hexec
  simp only [lt_irrefl, decide_false] at hexec
  exact ⟨o, ho, hexec⟩

/-! ### GET_RH from its request to its completion -/

/-- An accepted GET_RH that no host turn interrupts completes after ACQ_RH, corrected by its operand (43_humidity.md
R175). -/
theorem getRh_completes (arg : Option Rat) (hidle : s.status.busy = false) (hready : s.status.state = .ready)
    (hs : s.schedule = []) :
    exec (.getRh arg) s = .next (Claims.accepted .getRh arg s)
      ∧ runSteps 2 (Claims.accepted .getRh arg s) =
        .next (finishOperation .getRh (humidityPart arg (Claims.accepted .getRh arg s))) :=
  measurement_runs_reference (i := .getRh arg) rfl hidle hready hs (le_refl 2)

/-- ACQ_RH answered ok, with HUMIDITY of its sample (43_humidity.md R171). -/
theorem humidityPart_of_script (t : Option Rat) (h : s.script = .ok [] :: .ok [b0, b1] :: rest) :
    humidityPart t s = State.writeRh (humidity (be16 b0 b1) t) (State.writeD3 (be16 b0 b1)
      { s with script := rest, history := s.history ++ Claims.measured s.cfg b0 b1 }) := by
  simp [humidityPart, measureAndRead, State.exchange, State.record, State.consume, State.answer, h, answerOk, answer16,
    Claims.measured, Config.addr]

/-- Settles O26: GET_RH runs its pseudocode, whose sample goes through HUMIDITY. -/
theorem getRhMeasuresHumidity : Obligations.GetRhMeasuresHumidity := by
  intro s arg b0 b1 rest hidle hready hs hscript rh0 rh hrh0 hrh
  obtain ⟨hexec, hruns⟩ := getRh_completes arg hidle hready hs
  have hhumidity : humidity (be16 b0 b1) arg = rh := by
    rw [← humidity_none_eq] at hrh0
    subst hrh hrh0
    cases arg with
    | none => rfl
    | some a => exact humidity_some_eq _ a
  refine ⟨_, hexec, hruns.trans ?_⟩
  rw [humidityPart_of_script (s := Claims.accepted .getRh arg s) arg hscript, hhumidity]
  rfl

/-! ### The neutral operand -/

/-- The state with another `ARG_T` (10_state.md R35). -/
def State.withArgT (a : Option Rat) (s : State) : State := { s with argT := a }

@[simp] theorem State.withArgT_cfg (a : Option Rat) : (s.withArgT a).cfg = s.cfg := rfl
@[simp] theorem State.withArgT_answer (a : Option Rat) : (s.withArgT a).answer = s.answer := rfl

/-- An exchange with the bus agent does not read `ARG_T`, and leaves it. -/
theorem State.exchange_withArgT (e : BusEvent) (a : Option Rat) :
    (s.withArgT a).exchange e = (s.exchange e).withArgT a := by
  simp only [State.exchange, State.record, State.consume, State.answer, State.withArgT]
  cases s.script <;> rfl

/-- ACQ_RH with a given correcting temperature does not read `ARG_T`, and leaves it (43_humidity.md R171). -/
theorem humidityPart_withArgT (t a : Option Rat) (s : State) :
    humidityPart t (s.withArgT a) = (humidityPart t s).withArgT a := by
  unfold humidityPart measureAndRead
  simp only [State.exchange_withArgT, State.withArgT_answer, State.withArgT_cfg]
  cases answerOk 0 s.answer
  · rfl
  · cases answer16 (s.exchange (.busWrite (s.cfg.addr .rh) 0xE5#8)).answer <;> rfl

/-- ACQ_RH corrected by the reference temperature is ACQ_RH uncorrected (43_humidity.md R176). -/
theorem humidityPart_neutral (s : State) : humidityPart (some 20) s = humidityPart none s := by
  simp only [humidityPart, humidity_neutral]

/-- Settles O44: both requests run ACQ_RH on the same answers, from states that differ in `ARG_T` alone. -/
theorem neutralOperandIsNoCorrection : Obligations.NeutralOperandIsNoCorrection := by
  intro s t t' u u' hidle hready hs ht ht' hu hu'
  obtain ⟨hexec, hruns⟩ := getRh_completes none hidle hready hs
  obtain ⟨hexec', hruns'⟩ := getRh_completes (some 20) hidle hready hs
  obtain rfl := Host.Outcome.next.inj (hexec.symm.trans ht)
  obtain rfl := Host.Outcome.next.inj (hexec'.symm.trans ht')
  obtain rfl := Host.Outcome.next.inj (hruns.symm.trans hu)
  obtain rfl := Host.Outcome.next.inj (hruns'.symm.trans hu')
  have hlatch : Claims.accepted .getRh (some 20) s = (Claims.accepted .getRh none s).withArgT (some 20) := rfl
  rw [hlatch, humidityPart_withArgT, humidityPart_neutral]
  rfl

end Sys2Proof.Machine
end

section
/-! The composite operations GET_TPH and GET_TH (44_composite.md R186, R188) from their requests to their completion: with
every event answered ok, and without the temperature. -/

namespace Sys2Proof.Machine

variable {s : State} {o : Op} {a0 a1 a2 : Byte} {rest : List BusAnswer} {f : FirstOrder}

/-- The corrected humidity by the formulas of 43_humidity.md R172 and R173. -/
theorem humidity_corrected_eq (d3 : Word16) (t : Rat) :
    humidity d3 (some t) = -6 + 125 * (d3.toNat : Rat) / 2 ^ 16 + 18 / 100 * (t - 20) := by
  rw [humidity_some_eq, humidity_none_eq]

/-- GET_TPH with its temperature acquired goes on to the pressure, then to the humidity corrected with `T`
(44_composite.md R186). -/
theorem referenceGetTph_of_script (h : s.script = .ok [] :: .ok [a0, a1, a2] :: rest)
    (hf : calFirstOrder s.cal (be24 a0 a1 a2) = some f) :
    referenceGetTph s = andThen (pressurePart f (State.writeFirstOrder f (State.writeD2 (be24 a0 a1 a2)
      { s with script := rest, history := s.history ++ Claims.converted s.cfg 0x5A#8 a0 a1 a2 })))
      fun mid => finishOperation .getTph (humidityPart (some f.t) mid) := by
  simp only [referenceGetTph, convertAndRead_of_script _ _ h, hf]

/-- Settles O27: GET_TPH runs its pseudocode, whose samples go through FIRST_ORDER, COMPENSATE and HUMIDITY. -/
theorem getTphMeasuresAllThree : Obligations.GetTphMeasuresAllThree := by
  intro s c0 c1 c2 c3 c4 c5 a0 a1 a2 b0 b1 b2 e0 e1 rest hidle hready hs hcal hscript dT temp off sens t2 off2 sens2
    regime hdT htemp hoff hsens hterms
  obtain ⟨hexec, hruns⟩ := measurement_runs_reference (i := .getTph) rfl hidle hready hs (le_refl 8)
  have hfirst : calFirstOrder s.cal (be24 a0 a1 a2) = some { t := temp / 100, temp := temp, dt := dT } := by
    simp only [calFirstOrder, hcal, firstOrder_eq hdT htemp]
  have hend := referenceGetTph_of_script (s := Claims.accepted .getTph none s) hscript hfirst
  refine ⟨_, hexec, (hruns.trans hend).trans ?_⟩
  refine Eq.trans (congrArg (andThen · _) (pressurePart_of_script rfl
    (congrArg CalFile.c0 hcal) (congrArg CalFile.c1 hcal) (congrArg CalFile.c2 hcal) (congrArg CalFile.c3 hcal))) ?_
  rw [compensate_eq hoff hsens hterms, andThen, humidityPart_of_script _ rfl, humidity_corrected_eq]
  rfl

/-- Settles O28: GET_TH runs its pseudocode, which keeps `T` of FIRST_ORDER and corrects HUMIDITY with it. -/
theorem getThMeasuresTemperatureAndHumidity : Obligations.GetThMeasuresTemperatureAndHumidity := by
  intro s c4 c5 a0 a1 a2 e0 e1 rest hidle hready hs hc4 hc5 hscript dT temp hdT htemp
  obtain ⟨hexec, hruns⟩ := measurement_runs_reference (i := .getTh) rfl hidle hready hs (le_refl 5)
  have hconv := convertAndRead_of_script (s := Claims.accepted .getTh none s) 0x5A#8 .acqT hscript
  have hfirst : calFirstOrder s.cal (be24 a0 a1 a2) = some { t := temp / 100, temp := temp, dt := dT } := by
    simp only [calFirstOrder, hc4, hc5, firstOrder_eq hdT htemp]
  have hcal : (Claims.accepted .getTh none s).cal = s.cal := rfl
  refine ⟨_, hexec, hruns.trans ?_⟩
  simp only [referenceOperation, referenceGetTh, hconv, hcal, hfirst]
  rw [humidityPart_of_script _ rfl, humidity_corrected_eq]
  rfl

/-! ### Without the temperature -/

/-- An exchange takes the script's first answer and records it with its event (20_memory.md R51, R60). -/
theorem State.exchange_of_script {a : BusAnswer} (e : BusEvent) (h : s.script = a :: rest) :
    s.exchange e = { s with script := rest, history := s.history ++ [{ event := e, answer := a }] } := by
  obtain ⟨ha, hconsume⟩ := State.answer_of_script h
  rw [State.exchange, ha, hconsume, State.record]

/-- A composite whose convert-temperature command fails goes on at ACQ_RH and completes within its two events, with no
correcting temperature (44_composite.md R186, R188). -/
theorem runSteps_composite_of_convertError (h : InOperation o s) (ho : o = .getTph ∨ o = .getTh) (hseq : s.goTo 0 = s)
    (hfresh : s.status.vT = false) (ha : answerOk 0 s.answer = false) :
    runSteps 3 s = .next (finishOperation o
      (humidityPart none (((BusStep.command 0x5A#8).exchanged s).noteError .acqT))) := by
  have hconvert : (eventList o)[0]? = some (.command 0x5A#8) := by rcases ho with rfl | rfl <;> rfl
  have hmeasure : (eventList o)[resumeAt o .acqT]? = some (.command 0xE5#8) := by rcases ho with rfl | rfl <;> rfl
  have hlen : (eventList o).length ≤ resumeAt o .acqT + 2 := by rcases ho with rfl | rfl <;> decide
  have hstep := step_goTo_of_error h hconvert (ph := .acqT) rfl ha
  have hin := h.failed (.command 0x5A#8) .acqT
  have ⟨hop, _⟩ := hin
  have hne : some o ≠ some Op.getRh := by rcases ho with rfl | rfl <;> decide
  have htemp : correctingTemperature (((BusStep.command 0x5A#8).exchanged s).noteError .acqT) = none := by
    rw [correctingTemperature_of_ne (hop ▸ hne)]
    simp [BusStep.exchanged, hfresh]
  rw [hseq] at hstep
  rw [runSteps, hstep]
  exact endsAs_acqRh hmeasure htemp hin 2 hlen

/-- Settles O29: the failed command leaves ACQ_RH alone, whose sample goes through HUMIDITY uncorrected. -/
theorem compositesMeasureHumidityWithoutTemperature : Obligations.CompositesMeasureHumidityWithoutTemperature := by
  intro s i o e0 e1 rest hio hidle hready hs hscript
  have hi : Claims.measurement i = some (o, none) := by rcases hio with ⟨rfl, rfl⟩ | ⟨rfl, rfl⟩ <;> rfl
  have ho : o = .getTph ∨ o = .getTh := hio.imp And.right And.right
  have hseq : (Claims.accepted o none s).goTo 0 = Claims.accepted o none s := by cases o <;> rfl
  have hscript' : (Claims.accepted o none s).script = .err :: .ok [] :: .ok [e0, e1] :: rest := hscript
  obtain ⟨ha, -⟩ := State.answer_of_script hscript'
  have herr : answerOk 0 (Claims.accepted o none s).answer = false := by
    rw [ha]
    rfl
  have hruns := runSteps_composite_of_convertError (s := Claims.accepted o none s) ⟨rfl, rfl, hs⟩ ho hseq rfl herr
  refine ⟨_, exec_measurement_accepted hi hidle hready, hruns.trans ?_⟩
  rw [BusStep.exchanged, State.exchange_of_script _ hscript', humidityPart_of_script none rfl, humidity_none_eq]
  rfl

end Sys2Proof.Machine
end

section
/-! The composites against the separate operations (44_composite.md R189): GET_TPH is the pseudocode of GET_TP and then
ACQ_RH, GET_TH that of GET_T, of which `T` alone is kept, and then ACQ_RH. Two states that hold the same data and expect the
same answers go through these parts alike, and ACQ_RH reads nothing but the answers. -/

namespace Sys2Proof.Machine

variable {s s' m m' v u : State} {ph : Phase} {f : FirstOrder}

/-! ### ACQ_RH on what it reads -/

/-- Two states expect the same answers of the bus agent. -/
structure SameAnswers (s s' : State) : Prop where
  script : s.script = s'.script
  draws : s.draws = s'.draws

theorem SameAnswers.answer (h : SameAnswers s s') : s.answer = s'.answer := by
  simp only [State.answer, h.script, h.draws]

theorem SameAnswers.exchange (h : SameAnswers s s') (e e' : BusEvent) : SameAnswers (s.exchange e) (s'.exchange e') := by
  obtain ⟨hscript, hdraws⟩ := h
  constructor
  · simp [hscript]
  · cases hs : s'.script <;> simp [State.exchange, State.record, State.consume, hscript, hdraws, hs]

/-- The sample of ACQ_RH depends on the answers alone (43_humidity.md R171). -/
theorem SameAnswers.measureAndRead (h : SameAnswers s s') : (measureAndRead s).1 = (measureAndRead s').1 := by
  have hread := (h.exchange (.busWrite (s.cfg.addr .rh) 0xE5#8) (.busWrite (s'.cfg.addr .rh) 0xE5#8)).answer
  unfold Machine.measureAndRead
  simp only [h.answer, hread]
  cases answerOk 0 s'.answer
  · rfl
  · cases answer16 (s'.exchange (.busWrite (s'.cfg.addr .rh) 0xE5#8)).answer <;> rfl

/-- ACQ_RH writes its sample and the humidity, where it has a sample, and no other raw or result register (43_humidity.md
R171, R173). -/
theorem humidityPart_writes (t : Option Rat) (hrh : s.res.rh = none) (hd3 : s.raw.d3 = none) :
    (humidityPart t s).res = { s.res with rh := (measureAndRead s).1.map (humidity · t) }
      ∧ (humidityPart t s).raw = { s.raw with d3 := (measureAndRead s).1 } := by
  have hres : { s.res with rh := none } = s.res := by rw [← hrh]
  have hraw : { s.raw with d3 := none } = s.raw := by rw [← hd3]
  unfold humidityPart measureAndRead
  dsimp only
  cases answerOk 0 s.answer
  · simp [hres, hraw]
  · cases answer16 (s.exchange (.busWrite (s.cfg.addr .rh) 0xE5#8)).answer <;> simp [hres, hraw]

/-- From the same answers ACQ_RH writes the same into the registers of the humidity (44_composite.md R189). -/
theorem SameAnswers.humidityPart (h : SameAnswers s s') (t : Option Rat) (hrh : s.res.rh = none) (hd3 : s.raw.d3 = none)
    (hrh' : s'.res.rh = none) (hd3' : s'.raw.d3 = none) :
    (humidityPart t s).res = { s.res with rh := (humidityPart t s').res.rh }
      ∧ (humidityPart t s).raw = { s.raw with d3 := (humidityPart t s').raw.d3 } := by
  obtain ⟨hres, hraw⟩ := humidityPart_writes t hrh hd3
  obtain ⟨hres', hraw'⟩ := humidityPart_writes t hrh' hd3'
  rw [hres, hraw, hres', hraw', h.measureAndRead]
  exact ⟨rfl, rfl⟩

/-- A measurement that no host turn interrupts ends as its pseudocode does. -/
theorem referenceOperation_of_runSteps {t : State} {i : Instr} {o : Op} {arg : Option Rat}
    (hi : Claims.measurement i = some (o, arg)) (hidle : s.status.busy = false) (hready : s.status.state = .ready)
    (hs : s.schedule = []) (ht : exec i s = .next t) (hu : runSteps 16 t = .next u) :
    referenceOperation o (Claims.accepted o arg s) = .next u := by
  have hlen : (eventList o).length ≤ 16 := by cases o <;> decide
  obtain ⟨hexec, hruns⟩ := measurement_runs_reference hi hidle hready hs hlen
  obtain rfl := Host.Outcome.next.inj (hexec.symm.trans ht)
  exact hruns.symm.trans hu

/-- ACQ_RH of any operation writes what a GET_RH with the same operand writes from the same answers, and that GET_RH writes
no other result (43_humidity.md R175, 44_composite.md R189). -/
theorem humidityPart_eq_getRh {t w : State} {arg : Option Rat} (h : SameAnswers m s) (hrh : m.res.rh = none)
    (hd3 : m.raw.d3 = none) (hidle : s.status.busy = false) (hready : s.status.state = .ready) (hs : s.schedule = [])
    (ht : exec (.getRh arg) s = .next t) (hw : runSteps 16 t = .next w) :
    (humidityPart arg m).res = { m.res with rh := w.res.rh } ∧ (humidityPart arg m).raw = { m.raw with d3 := w.raw.d3 }
      ∧ w.res = { Claims.noResults with rh := w.res.rh } := by
  have hrun := referenceOperation_of_runSteps (i := .getRh arg) rfl hidle hready hs ht hw
  obtain rfl := Host.Outcome.next.inj hrun
  have haccepted : SameAnswers m (Claims.accepted .getRh arg s) := ⟨h.script, h.draws⟩
  obtain ⟨hres, hraw⟩ := haccepted.humidityPart arg hrh hd3 rfl rfl
  obtain ⟨hself, -⟩ := SameAnswers.humidityPart (s := Claims.accepted .getRh arg s) ⟨rfl, rfl⟩ arg rfl rfl rfl rfl
  exact ⟨hres, hraw, hself⟩

/-! ### ACQ_T and ACQ_P on what they read -/

/-- Two states expect the same answers, hold the same calibration, and have obtained the same. -/
structure SameData (s s' : State) : Prop extends SameAnswers s s' where
  cal : s.cal = s'.cal
  raw : s.raw = s'.raw
  res : s.res = s'.res

/-- What the temperature and the pressure leave alone: `STATE`, the host's turns and the registers of the humidity. -/
structure LeavesHumidity (s m : State) : Prop where
  state : m.status.state = s.status.state
  schedule : m.schedule = s.schedule
  d3 : m.raw.d3 = s.raw.d3
  rh : m.res.rh = s.res.rh

theorem LeavesHumidity.trans (h : LeavesHumidity s m) (h' : LeavesHumidity m v) : LeavesHumidity s v :=
  ⟨h'.state.trans h.state, h'.schedule.trans h.schedule, h'.d3.trans h.d3, h'.rh.trans h.rh⟩

theorem LeavesHumidity.finishOperation (h : LeavesHumidity s m) (o : Op) : LeavesHumidity s (finishOperation o m) :=
  ⟨h.state, h.schedule, h.d3, h.rh⟩

theorem Status.withError_state (hph : ph ≠ .init) (st : Status) : (st.withError ph).state = st.state := by
  cases ph with
  | init => exact absurd rfl hph
  | acqT | acqP | acqRh => rfl

/-- Converting and reading writes no raw or result register, and of STATUS its error flag alone (41_temperature.md R121,
42_pressure.md R142). -/
theorem convertAndRead_frame (c : Byte) (hph : ph ≠ .init) (s : State) :
    (convertAndRead c ph s).2.cal = s.cal ∧ (convertAndRead c ph s).2.raw = s.raw
      ∧ (convertAndRead c ph s).2.res = s.res ∧ (convertAndRead c ph s).2.schedule = s.schedule
      ∧ (convertAndRead c ph s).2.status.state = s.status.state := by
  unfold convertAndRead
  dsimp only
  split
  · split <;> simp [Status.withError_state hph]
  · simp [Status.withError_state hph]

/-- From the same answers, converting and reading yields the same sample or the same error. -/
theorem SameAnswers.convertAndRead (h : SameAnswers s s') (c : Byte) (ph : Phase) :
    (convertAndRead c ph s).1 = (convertAndRead c ph s').1
      ∧ SameAnswers (convertAndRead c ph s).2 (convertAndRead c ph s').2 := by
  have hsent := h.exchange (.busWrite (s.cfg.addr .tp) c) (.busWrite (s'.cfg.addr .tp) c)
  have hwaited : SameAnswers
      ((s.exchange (.busWrite (s.cfg.addr .tp) c)).record (.sleep s.cfg.convWaitMs) (.ok []))
      ((s'.exchange (.busWrite (s'.cfg.addr .tp) c)).record (.sleep s'.cfg.convWaitMs) (.ok [])) :=
    ⟨hsent.script, hsent.draws⟩
  have hgot := hwaited.exchange (.busBlockRead (s.cfg.addr .tp) 3) (.busBlockRead (s'.cfg.addr .tp) 3)
  unfold Machine.convertAndRead
  simp only [h.answer, State.exchange_cfg, State.record_cfg, hwaited.answer]
  split
  · split <;> exact ⟨rfl, hgot.script, hgot.draws⟩
  · exact ⟨rfl, hsent.script, hsent.draws⟩

/-- From the same data, converting and reading ends in the same data, with the results it found. -/
theorem SameData.convertAndRead (h : SameData s s') (c : Byte) (hph : ph ≠ .init) :
    ∃ sample got got', convertAndRead c ph s = (sample, got) ∧ convertAndRead c ph s' = (sample, got')
      ∧ SameData got got' ∧ got'.res = s'.res ∧ LeavesHumidity s' got' := by
  obtain ⟨hsample, hanswers⟩ := h.toSameAnswers.convertAndRead c ph
  obtain ⟨hcal, hraw, hres, -⟩ := convertAndRead_frame c hph s
  obtain ⟨hcal', hraw', hres', hschedule, hstate⟩ := convertAndRead_frame c hph s'
  refine ⟨(Machine.convertAndRead c ph s).1, (Machine.convertAndRead c ph s).2, (Machine.convertAndRead c ph s').2,
    rfl, Prod.ext hsample.symm rfl, ⟨hanswers, ?_, ?_, ?_⟩, hres',
    ⟨hstate, hschedule, congrArg RawRegs.d3 hraw', congrArg ResultRegs.rh hres'⟩⟩
  · rw [hcal, hcal', h.cal]
  · rw [hraw, hraw', h.raw]
  · rw [hres, hres', h.res]

theorem SameData.writeD2 (h : SameData s s') (v : Word24) : SameData (s.writeD2 v) (s'.writeD2 v) :=
  ⟨⟨h.script, h.draws⟩, h.cal, by simp [h.raw], h.res⟩

theorem SameData.writeFirstOrder (h : SameData s s') (f : FirstOrder) :
    SameData (s.writeFirstOrder f) (s'.writeFirstOrder f) :=
  ⟨⟨h.script, h.draws⟩, h.cal, h.raw, by simp [h.res]⟩

theorem SameData.writePressure (h : SameData s s') (v : Word24) (p : Compensated) :
    SameData ((s.writeD1 v).writeCompensated p) ((s'.writeD1 v).writeCompensated p) :=
  ⟨⟨h.script, h.draws⟩, h.cal, by simp [h.raw], by simp [h.res]⟩

/-- ACQ_P with COMPENSATE, from the same data, ends in the same data (42_pressure.md R141). -/
theorem SameData.pressurePart (h : SameData s s') (hdt : s.res.dt = some f.dt) (htemp : s.res.temp = some f.temp)
    (hm : pressurePart f s = .next m) (hm' : pressurePart f s' = .next m') : SameData m m' ∧ LeavesHumidity s' m' := by
  obtain ⟨sample, got, got', hconv, hconv', hgot, -, hleaves⟩ := h.convertAndRead 0x4A#8 (ph := .acqP) (by decide)
  cases sample with
  | none =>
    obtain rfl := Host.Outcome.next.inj ((pressurePart_of_error hconv).symm.trans hm)
    obtain rfl := Host.Outcome.next.inj ((pressurePart_of_error hconv').symm.trans hm')
    exact ⟨hgot, hleaves⟩
  | some v =>
    obtain ⟨-, hstop⟩ | ⟨p, hp, hnext⟩ := pressurePart_of_sample hdt htemp hconv
    · simp [hstop] at hm
    obtain ⟨hnone, -⟩ | ⟨p', hp', hnext'⟩ := pressurePart_of_sample (h.res ▸ hdt) (h.res ▸ htemp) hconv'
    · simp [← h.cal, ← h.res, hp] at hnone
    obtain rfl : p = p' := Option.some.inj (by rw [← hp, ← hp', h.cal, h.res])
    obtain rfl := Host.Outcome.next.inj (hnext.symm.trans hm)
    obtain rfl := Host.Outcome.next.inj (hnext'.symm.trans hm')
    exact ⟨hgot.writePressure v p, hleaves.trans ⟨rfl, rfl, rfl, rfl⟩⟩

/-! ### The composites as sequences -/

theorem andThen_eq_next {r : Result} {k : State → State} : andThen r k = .next u ↔ ∃ m, r = .next m ∧ k m = u := by
  cases r <;> simp [andThen]

theorem SameData.finishOperation (h : SameData s s') (o : Op) : SameData s (finishOperation o s') :=
  ⟨⟨h.script, h.draws⟩, h.cal, h.raw, h.res⟩

/-- GET_TPH is GET_TP, and then ACQ_RH corrected with its `RES_T` (44_composite.md R186, R189). -/
theorem referenceGetTph_of_getTp (h : SameData s s') (hfresh : s'.res.t = none) (hu : referenceGetTph s = .next u)
    (hv : referenceGetTp s' = .next v) :
    LeavesHumidity s' v ∧ v.status.busy = false
      ∧ ∃ mid, SameData mid v ∧ u = finishOperation .getTph (humidityPart v.res.t mid) := by
  obtain ⟨sample, got, got', hconv, hconv', hgot, hres, hleaves⟩ := h.convertAndRead 0x5A#8 (ph := .acqT) (by decide)
  cases sample with
  | none =>
    simp only [referenceGetTph, hconv] at hu
    simp only [referenceGetTp, hconv'] at hv
    obtain rfl := Host.Outcome.next.inj hv
    refine ⟨hleaves.finishOperation .getTp, rfl, got, hgot.finishOperation .getTp, ?_⟩
    rw [show (finishOperation .getTp got').res.t = none by rw [← hfresh, ← hres]; rfl]
    exact (Host.Outcome.next.inj hu).symm
  | some w =>
    cases hf : calFirstOrder s'.cal w with
    | none => simp [referenceGetTp, hconv', hf] at hv
    | some f =>
      simp only [referenceGetTph, hconv, h.cal, hf, andThen_eq_next] at hu
      simp only [referenceGetTp, hconv', hf, andThen_eq_next] at hv
      obtain ⟨mid, hmid, rfl⟩ := hu
      obtain ⟨mid', hmid', rfl⟩ := hv
      obtain ⟨hdata, hleaves'⟩ := ((hgot.writeD2 w).writeFirstOrder f).pressurePart rfl rfl hmid hmid'
      obtain ⟨-, ht, -⟩ := pressurePart_keeps (converts_acqP (o := .getTp) rfl).1 rfl rfl hmid'
      have hsampled : LeavesHumidity got' ((got'.writeD2 w).writeFirstOrder f) := ⟨rfl, rfl, rfl, rfl⟩
      refine ⟨((hleaves.trans hsampled).trans hleaves').finishOperation .getTp, rfl, mid,
        hdata.finishOperation .getTp, ?_⟩
      rw [show (finishOperation .getTp mid').res.t = some f.t from ht]

/-- GET_TH is GET_T, of which `T` alone is kept, and then ACQ_RH corrected with it (44_composite.md R188, R189). -/
theorem referenceGetTh_of_getT (h : SameData s s') (hfresh : s'.res.t = none) (hu : referenceGetTh s = .next u)
    (hv : referenceGetT s' = .next v) :
    LeavesHumidity s' v ∧ v.status.busy = false
      ∧ ∃ mid, SameAnswers mid v ∧ mid.raw = v.raw ∧ mid.res = { s'.res with t := v.res.t }
        ∧ u = finishOperation .getTh (humidityPart v.res.t mid) := by
  obtain ⟨sample, got, got', hconv, hconv', hgot, hres, hleaves⟩ := h.convertAndRead 0x5A#8 (ph := .acqT) (by decide)
  have hmid : got.res = s'.res := hgot.res.trans hres
  cases sample with
  | none =>
    simp only [referenceGetTh, hconv] at hu
    simp only [referenceGetT, hconv'] at hv
    obtain rfl := Host.Outcome.next.inj hv
    have ht : (finishOperation .getT got').res.t = none := by rw [← hfresh, ← hres]; rfl
    refine ⟨hleaves.finishOperation .getT, rfl, got, ⟨hgot.script, hgot.draws⟩, hgot.raw, ?_, ?_⟩
    · rw [ht, hmid, ← hfresh]
    · rw [ht]
      exact (Host.Outcome.next.inj hu).symm
  | some w =>
    cases hf : calFirstOrder s'.cal w with
    | none => simp [referenceGetT, hconv', hf] at hv
    | some f =>
      simp only [referenceGetTh, hconv, h.cal, hf] at hu
      simp only [referenceGetT, hconv', hf] at hv
      obtain rfl := Host.Outcome.next.inj hv
      refine ⟨hleaves.trans ⟨rfl, rfl, rfl, rfl⟩, rfl, (got.writeD2 w).writeTOnly f, ⟨hgot.script, hgot.draws⟩,
        (hgot.writeD2 w).raw, ?_, (Host.Outcome.next.inj hu).symm⟩
      rw [State.writeTOnly_res, State.writeD2_res, hmid]
      rfl

/-- Two measurements accepted by one block start from the same data. -/
theorem sameData_accepted (o o' : Op) (s : State) :
    SameData (Claims.accepted o none s) (Claims.accepted o' none s) := ⟨⟨rfl, rfl⟩, rfl, rfl, rfl⟩

/-- Settles O59: the composite and the separate operations go through their shared parts alike, and ACQ_RH takes the same
answers in both. -/
theorem compositesEqualSeparateOperations : Obligations.CompositesEqualSeparateOperations := by
  intro s t u t1 v t2 w hidle hready hs
  constructor <;> intro ht hu ht1 hv ht2 hw
  · obtain ⟨hleaves, hdone, mid, hdata, rfl⟩ := referenceGetTph_of_getTp (sameData_accepted .getTph .getTp s) rfl
      (referenceOperation_of_runSteps (i := .getTph) rfl hidle hready hs ht hu)
      (referenceOperation_of_runSteps (i := .getTp) rfl hidle hready hs ht1 hv)
    obtain ⟨hres, hraw, -⟩ := humidityPart_eq_getRh hdata.toSameAnswers (by rw [hdata.res, hleaves.rh]; rfl)
      (by rw [hdata.raw, hleaves.d3]; rfl) hdone (hleaves.state.trans hready) (hleaves.schedule.trans hs) ht2 hw
    rw [hdata.res] at hres
    rw [hdata.raw] at hraw
    exact ⟨hres, hraw⟩
  · obtain ⟨hleaves, hdone, mid, hanswers, hmraw, hmres, rfl⟩ :=
      referenceGetTh_of_getT (sameData_accepted .getTh .getT s) rfl
        (referenceOperation_of_runSteps (i := .getTh) rfl hidle hready hs ht hu)
        (referenceOperation_of_runSteps (i := .getT) rfl hidle hready hs ht1 hv)
    obtain ⟨hres, hraw, hwres⟩ := humidityPart_eq_getRh hanswers (by rw [hmres]; rfl)
      (by rw [hmraw, hleaves.d3]; rfl) hdone (hleaves.state.trans hready) (hleaves.schedule.trans hs) ht2 hw
    rw [hmres] at hres
    rw [hmraw] at hraw
    rw [hwres]
    exact ⟨hres, hraw⟩

end Sys2Proof.Machine
end

section
/-! Requests presented to the block (60_exceptions.md R204 to R209): who is refused and with which fault, and what `exec` of
a request leaves unchanged. -/

namespace Sys2Proof.Machine

variable {s t : State} {o : Op} {arg : Option Rat} {i : Instr} {r : Request}

/-! ### A presented request -/

theorem presentRequest_of_busy (hbusy : s.status.busy = true) (r : Request) :
    presentRequest r s = .next (s.refuse .overlap) := by
  simp [presentRequest, hbusy]

theorem presentRequest_of_decode (hidle : s.status.busy = false) (hi : decodeRequest r = .instr i) :
    presentRequest r s = exec i s := by
  simp [presentRequest, hidle, hi]

theorem presentRequest_of_illegal (hidle : s.status.busy = false) {e : DecodeError}
    (he : decodeRequest r = .illegal e) : presentRequest r s = .next (s.refuse .illegal) := by
  simp [presentRequest, hidle, he]

theorem step_of_request {rest : List Turn} (hs : s.schedule = .request r :: rest) :
    step s = presentRequest r { s with schedule := rest } := by
  simp [step, takeTurn, hs]

/-- Settles O4: a step on a request turn is `presentRequest`, which runs what an idle block decodes. -/
theorem stepRunsThePresentedRequest : Obligations.StepRunsThePresentedRequest := by
  refine ⟨fun s r rest i hidle hs hi _ => ?_, fun s r rest hs => step_of_request hs, fun s r rest hs hbusy => ?_⟩
  · rw [step_of_request hs, presentRequest_of_decode (s := { s with schedule := rest }) hidle hi]
  · rw [step_of_request hs]
    exact presentRequest_of_busy (s := { s with schedule := rest }) hbusy r

/-! ### Acceptance and refusal -/

theorem exec_measurement_notReady (hi : Claims.measurement i = some (o, arg)) (hidle : s.status.busy = false)
    (hnot : s.status.state ≠ .ready) : exec i s = .next (s.refuse .notReady) := by
  rw [(exec_measurement hi s).1]
  simp [admitMeasurement, hidle, hnot]

/-- Everything `exec` of a request can do: it is refused, or an idle block accepts the measurement or INIT. -/
theorem exec_request_cases (hi : i = .init ∨ (Claims.measurement i).isSome = true) (h : exec i s = .next t) :
    (∃ c, t = s.refuse c) ∨
    (s.status.busy = false ∧ i ≠ .init ∧ ∃ o arg, t = s.accept o arg) ∨
    (s.status.busy = false ∧ i = .init ∧ t = (s.accept .init none).startInit) := by
  obtain rfl | hsome := hi
  · obtain ⟨-, hr⟩ | ⟨hidle, hr⟩ := execInit_cases s
    · exact .inl ⟨_, Host.Outcome.next.inj (h.symm.trans hr)⟩
    · exact .inr (.inr ⟨hidle, rfl, Host.Outcome.next.inj (h.symm.trans hr)⟩)
  · obtain ⟨⟨o, arg⟩, hm⟩ := Option.isSome_iff_exists.mp hsome
    have hinit : i ≠ .init := by rintro rfl; cases hm
    obtain rfl := Host.Outcome.next.inj (h.symm.trans (exec_measurement hm s).1)
    obtain ⟨-, hr⟩ | ⟨-, -, hr⟩ | ⟨hidle, -, hr⟩ := admitMeasurement_cases o arg s
    · exact .inl ⟨_, hr⟩
    · exact .inl ⟨_, hr⟩
    · exact .inr (.inl ⟨hidle, hinit, o, arg, hr⟩)

/-- While an operation runs `exec` refuses every request (60_exceptions.md R206). -/
theorem exec_request_of_busy (hbusy : s.status.busy = true)
    (hi : i = .init ∨ (Claims.measurement i).isSome = true) : exec i s = .next (s.refuse .overlap) := by
  obtain rfl | hsome := hi
  · simp [exec, execInit, hbusy]
  · obtain ⟨⟨o, arg⟩, hm⟩ := Option.isSome_iff_exists.mp hsome
    rw [(exec_measurement hm s).1]
    simp [admitMeasurement, hbusy]

/-- Settles O15, by the acceptance of a measurement. -/
theorem readyBlockAcceptsMeasurements : Obligations.ReadyBlockAcceptsMeasurements :=
  fun _ _ _ _ hi hidle hready => exec_measurement_accepted hi hidle hready

/-- Settles O17: a measurement meets the check of `STATE`, which INIT does not make. -/
theorem notReadyRefusesMeasurements : Obligations.NotReadyRefusesMeasurements :=
  ⟨fun _ _ _ _ hi hidle hnot => exec_measurement_notReady hi hidle hnot,
    fun s hidle => ⟨_, initStartsFresh s hidle, rfl, rfl⟩⟩

/-- Settles O18: the check of `BUSY` comes first, and a listed index is read in any state. -/
theorem busyBlockRefusesRequests : Obligations.BusyBlockRefusesRequests := by
  refine fun s hbusy => ⟨fun i hi => exec_request_of_busy hbusy hi, presentRequest_of_busy hbusy, fun k hk => ?_⟩
  have hreg : readRegister s k ≠ none := by simp [readRegister_eq_none_iff, hk]
  obtain ⟨v, hv⟩ := Option.ne_none_iff_exists'.mp hreg
  exact ⟨v, State.hostRead_of_some hv⟩

/-- Settles O19: the decoder rejects the word, and the register map leaves out the index. -/
theorem illegalWordsAreRefused : Obligations.IllegalWordsAreRefused :=
  ⟨fun _ _ _ hidle he => presentRequest_of_illegal hidle he,
    fun s _ hk => State.hostRead_of_none (readRegister_unlisted s hk)⟩

/-! ### What a request leaves unchanged -/

/-- Settles O37, for a refused request, an accepted measurement and an accepted INIT in turn. -/
theorem requestFrame : Obligations.RequestFrame := by
  intro s t i hi h
  obtain ⟨c, rfl⟩ | ⟨hidle, -, o, arg, rfl⟩ | ⟨hidle, rfl, rfl⟩ := exec_request_cases hi h
  · exact ⟨rfl, rfl, rfl, rfl, rfl, ⟨_, rfl⟩, fun _ => ⟨rfl, rfl, rfl, rfl, rfl⟩,
      fun _ => ⟨rfl, rfl, rfl, rfl, rfl, rfl, rfl, rfl, rfl⟩, fun hbusy => absurd rfl hbusy⟩
  · exact ⟨rfl, rfl, rfl, rfl, rfl, ⟨_, rfl⟩, fun _ => ⟨rfl, rfl, rfl, rfl, rfl⟩,
      fun hbusy => by simp [hidle] at hbusy, fun _ => ⟨rfl, rfl⟩⟩
  · exact ⟨rfl, rfl, rfl, rfl, rfl, ⟨_, rfl⟩, fun hne => absurd rfl hne,
      fun hbusy => by simp [hidle] at hbusy, fun _ => ⟨rfl, rfl⟩⟩

end Sys2Proof.Machine
end

section
/-! The sticky fault record (60_exceptions.md R207): the controller never writes it, and a further fault keeps the first
code. -/

namespace Sys2Proof.Machine

variable {s t m : State} {e : BusStep}

/-! ### What a step is, but for a block reset -/

/-- A running operation makes its next event, or completes past the last one. -/
theorem runOperation_cases (hbusy : s.status.busy = true) (h : runOperation s = .next t) :
    t = s.complete ∨ ∃ e, s.nextEvent = some e ∧ runEvent e s = .next t := by
  cases ho : s.op with
  | none => simp [runOperation, ho] at h
  | some o =>
    rw [runOperation_of_op ho] at h
    cases he : (eventList o)[s.seq]? with
    | none => exact .inl (by simpa [he, eq_comm] using h)
    | some e => exact .inr ⟨e, State.nextEvent_eq_some.mpr ⟨hbusy, o, ho, he⟩, by simpa [he] using h⟩

/-- The controller's turn is a move of the running operation, or a wait. -/
theorem controllerTurn_outcome (h : controllerTurn s = .next t) :
    (s.status.busy = true ∧ runOperation s = .next t) ∨ (s.status.busy = false ∧ t = s) := by
  obtain ⟨hidle, hr⟩ | ⟨hbusy, hr⟩ := controllerTurn_cases s
  · exact .inr ⟨hidle, Host.Outcome.next.inj (h.symm.trans hr)⟩
  · exact .inl ⟨hbusy, hr.symm.trans h⟩

/-- A step but for a block reset leaves some turns `l` and is a move of the running operation, a wait of the idle block, a
request or a host read. -/
theorem step_outcome (h : step s = .next t) (hreset : s.schedule.head? ≠ some .blockReset) :
    ∃ l : List Turn,
      (s.status.busy = true ∧ runOperation { s with schedule := l } = .next t) ∨
      (s.status.busy = false ∧ t = { s with schedule := l }) ∨
      (∃ r, presentRequest r { s with schedule := l } = .next t) ∨
      ∃ k, t = State.hostRead k { s with schedule := l } := by
  obtain ⟨-, hr⟩ | ⟨r, rest, -, hr⟩ | ⟨k, rest, -, hr⟩ | ⟨rest, -, hr⟩ | ⟨rest, -, hbusy, hr⟩ | ⟨rest, -, hidle, hr⟩ |
    ⟨rest, hs, hr⟩ := step_cases s <;> rw [h] at hr
  · exact ⟨s.schedule, (controllerTurn_outcome hr.symm).imp_right .inl⟩
  · exact ⟨rest, .inr (.inr (.inl ⟨r, hr.symm⟩))⟩
  · exact ⟨rest, .inr (.inr (.inr ⟨k, Host.Outcome.next.inj hr⟩))⟩
  · exact ⟨rest, (controllerTurn_outcome hr.symm).imp_right .inl⟩
  · exact ⟨s.schedule, .inl ⟨hbusy, hr.symm⟩⟩
  · exact ⟨rest, .inr (.inl ⟨hidle, Host.Outcome.next.inj hr⟩)⟩
  · simp [hs] at hreset

/-! ### The fault record -/

/-- `FAULT` and `FAULT_CODE` are the same (10_state.md R31). -/
def SameFault (s t : State) : Prop := t.status.fault = s.status.fault ∧ t.status.faultCode = s.status.faultCode

/-- A fault that is set stays with its code (60_exceptions.md R207). -/
theorem Status.withFault_of_fault {st : Status} (h : st.fault = true) (c : FaultCode) : st.withFault c = st := by
  cases st
  simp_all [Status.withFault]

theorem sameFault_done (hd : e.Done s m) : SameFault s m := by
  cases hd with
  | readD2 v f ha hf =>
    unfold State.keepFirstOrder
    split <;> simp [SameFault, BusStep.exchanged]
  | openDevice | command | resetRh | waitConversion | readCal | readD1 | readD3 =>
    simp [SameFault, BusStep.exchanged]

theorem sameFault_failed (hf : e.Failed s t) : SameFault s t := by
  obtain ⟨-, ph, -, rfl⟩ := hf
  cases ph <;> simp [SameFault, BusStep.exchanged, State.failPhase, Status.withError]

/-- No bus event records a fault: an error of the bus sets the flag of its phase (60_exceptions.md R201). -/
theorem sameFault_runOperation (hbusy : s.status.busy = true) (h : runOperation s = .next t) : SameFault s t := by
  obtain rfl | ⟨e, hn, hr⟩ := runOperation_cases hbusy h
  · exact ⟨rfl, rfl⟩
  · obtain ⟨m, hd, rfl⟩ | hf := runEvent_cases hn hr
    · simpa [SameFault] using sameFault_done hd
    · exact sameFault_failed hf

theorem sameFault_presentRequest {r : Request} (hfault : s.status.fault = true) (h : presentRequest r s = .next t) :
    SameFault s t := by
  obtain ⟨c, -, hr⟩ | ⟨-, o, arg, -, hr⟩ | ⟨-, -, hr⟩ := presentRequest_outcome r s <;>
    obtain rfl := Host.Outcome.next.inj (hr.symm.trans h)
  · simp [SameFault, Status.withFault_of_fault hfault]
  · exact ⟨rfl, rfl⟩
  · exact ⟨rfl, rfl⟩

theorem sameFault_hostRead (hfault : s.status.fault = true) (k : Nat) : SameFault s (s.hostRead k) := by
  obtain ⟨v, -, hr⟩ | ⟨-, hr⟩ := State.hostRead_cases k s <;> rw [hr]
  · exact ⟨rfl, rfl⟩
  · simp [SameFault, Status.withFault_of_fault hfault]

/-- Settles O20: with `FAULT` set every turn but a block reset leaves the fault record as it is. -/
theorem faultIsStickyUntilBlockReset : Obligations.FaultIsStickyUntilBlockReset := by
  intro s t h hfault hreset
  have hsame : SameFault s t := by
    obtain ⟨l, ⟨hbusy, hr⟩ | ⟨-, rfl⟩ | ⟨r, hr⟩ | ⟨k, rfl⟩⟩ := step_outcome h hreset
    · exact sameFault_runOperation (s := { s with schedule := l }) hbusy hr
    · exact ⟨rfl, rfl⟩
    · exact sameFault_presentRequest (s := { s with schedule := l }) hfault hr
    · exact sameFault_hostRead (s := { s with schedule := l }) hfault k
  exact ⟨hsame.1.trans hfault, hsame.2⟩

end Sys2Proof.Machine
end

section
/-! What a running measurement has obtained (60_exceptions.md R203): the sample reads write each register once, and nothing
else writes it before completion. -/

namespace Sys2Proof.Machine

open Safety

variable {s t m : State} {o : Op} {e : BusStep}

/-- The latches are the same, and the temperature and the pressure are kept where they were obtained, with their samples
(10_state.md R27, R29, R35). -/
def KeepsObtained (s t : State) : Prop :=
  (s.status.vT = true → t.status.vT = true ∧ t.res.t = s.res.t ∧ t.res.dt = s.res.dt ∧ t.res.temp = s.res.temp
    ∧ t.raw.d2 = s.raw.d2)
  ∧ (s.status.vP = true → t.status.vP = true ∧ t.res.p = s.res.p ∧ t.res.off = s.res.off ∧ t.res.sens = s.res.sens
    ∧ t.res.t2 = s.res.t2 ∧ t.res.off2 = s.res.off2 ∧ t.res.sens2 = s.res.sens2 ∧ t.res.tempc = s.res.tempc
    ∧ t.raw.d1 = s.raw.d1 ∧ t.status.regime = s.status.regime)
  ∧ t.argT = s.argT ∧ t.op = s.op

/-- An entry that is done has written only what was not obtained before it: `D2` and `D1` are read where their phases are
fresh. -/
theorem keepsObtained_done (hp : progress o s.seq s) (hs : e.standsAt o s.seq) (hd : e.Done s m) :
    KeepsObtained s m.advance := by
  cases hd with
  | readD2 v f ha hf =>
    have hT : s.status.vT = false := (freshT_of_progress hp (by have := hs.1; omega)).1
    unfold State.keepFirstOrder
    split <;> simp [KeepsObtained, BusStep.exchanged, hT]
  | readD1 v c ha hc =>
    have hP : s.status.vP = false := (freshP_of_progress hp (by have := hs.1; omega)).1
    simp [KeepsObtained, BusStep.exchanged, hP]
  | openDevice | command | resetRh | waitConversion | readCal | readD3 => simp [KeepsObtained, BusStep.exchanged]

theorem keepsObtained_failed (hf : e.Failed s t) : KeepsObtained s t := by
  obtain ⟨-, ph, -, rfl⟩ := hf
  cases ph <;> simp [KeepsObtained, BusStep.exchanged, State.failPhase, Status.withError]

theorem keepsObtained_runOperation (h : Inv s) (hbusy : s.status.busy = true) (hr : runOperation s = .next t) :
    KeepsObtained s t := by
  obtain ⟨e, hn⟩ := nextEvent_of_inv h hbusy
  obtain ⟨o, -, hs, -, hp⟩ := running_of_nextEvent h hn
  obtain ⟨m, hd, rfl⟩ | hf := runEvent_cases hn (runOperation_of_nextEvent hn ▸ hr)
  · exact keepsObtained_done hp hs hd
  · exact keepsObtained_failed hf

theorem keepsObtained_refuse (s : State) (c : FaultCode) : KeepsObtained s (s.refuse c) := by
  simp [KeepsObtained, Status.withFault]

theorem keepsObtained_hostRead (s : State) (k : Nat) : KeepsObtained s (s.hostRead k) := by
  obtain ⟨v, -, hr⟩ | ⟨-, hr⟩ := State.hostRead_cases k s <;> rw [hr] <;> simp [KeepsObtained, Status.withFault]

/-- The invariant has a running measurement in READY. -/
theorem ready_of_inv (h : Inv s) (hbusy : s.status.busy = true) (ho : s.op ≠ some .init) : s.status.state = .ready := by
  obtain ⟨e, hn⟩ := nextEvent_of_inv h hbusy
  obtain ⟨o, hop, -, -, hp⟩ := running_of_nextEvent h hn
  exact ready_of_progress hp fun hinit => ho (hinit ▸ hop)

/-- Settles O55: `STATE` by who writes it, the rest turn by turn; a busy block accepts no request. -/
theorem obtainedFieldsStayToCompletion : Obligations.ObtainedFieldsStayToCompletion := by
  intro s t hinv hbusy ho hreset h
  have hstate : t.status.state = s.status.state := by
    obtain ⟨-, hstate, -⟩ | ⟨-, hinit⟩ | ⟨hidle, -⟩ | hblock := onlyInitWritesCalibrationStateAndHandles s t h
    · exact hstate
    · exact absurd hinit ho
    · simp [hbusy] at hidle
    · exact absurd hblock hreset
  refine ⟨hstate.trans (ready_of_inv hinv hbusy ho), ?_⟩
  show KeepsObtained s t
  obtain ⟨l, ⟨-, hr⟩ | ⟨hidle, -⟩ | ⟨r, hr⟩ | ⟨k, rfl⟩⟩ := step_outcome h hreset
  · exact keepsObtained_runOperation (s := { s with schedule := l }) (inv_schedule hinv l) hbusy hr
  · simp [hbusy] at hidle
  · have hrefused := presentRequest_of_busy (s := { s with schedule := l }) hbusy r
    obtain rfl := Host.Outcome.next.inj (hrefused.symm.trans hr)
    exact keepsObtained_refuse { s with schedule := l } .overlap
  · exact keepsObtained_hostRead { s with schedule := l } k

end Sys2Proof.Machine
end

section
/-! Reset and hazards (70_reset_and_hazards.md): block reset and waiting (R230, R231), how long results last (R238), the
conversion wait (R234 to R236) and completion (R240). -/

namespace Sys2Proof.Machine

open Safety

variable {s t : State} {o : Op} {n : Nat} {e : BusStep} {ph : Phase}

/-! ### Block reset and waiting -/

/-- Settles O2: a block reset's turn builds the reset state around what is not the block's own. -/
theorem blockResetRestoresEveryElement : Obligations.BlockResetRestoresEveryElement := by
  intro s rest hs
  have hstep : step s = .next (State.blockReset { s with schedule := rest }) := by simp [step, takeTurn, hs]
  exact hstep

/-- Settles O3: with no turn left a step is the controller's, and the controller of an idle block waits. -/
theorem idleBlockWaits : Obligations.IdleBlockWaits := by
  intro s hs hidle
  have hstep : step s = controllerTurn s := by simp [step, takeTurn, hs]
  obtain ⟨-, hwait⟩ | ⟨hbusy, -⟩ := controllerTurn_cases s
  · exact hstep.trans hwait
  · simp [hidle] at hbusy

/-! ### How long results last -/

/-- The result and raw registers are the same, and all of STATUS but the fault record (10_state.md R27, R28, R32). -/
def KeepsResults (s t : State) : Prop :=
  t.res = s.res ∧ t.raw = s.raw
  ∧ t.status = { s.status with fault := t.status.fault, faultCode := t.status.faultCode }

theorem keepsResults_hostRead (s : State) (k : Nat) : KeepsResults s (s.hostRead k) := by
  obtain ⟨v, -, hr⟩ | ⟨-, hr⟩ := State.hostRead_cases k s <;> rw [hr] <;> exact ⟨rfl, rfl, rfl⟩

/-- A request after which the block is idle was refused: an accepted one sets `BUSY` (60_exceptions.md R209). -/
theorem keepsResults_presentRequest {r : Request} (hidle : t.status.busy = false) (h : presentRequest r s = .next t) :
    KeepsResults s t := by
  obtain ⟨c, -, hr⟩ | ⟨-, o, arg, -, hr⟩ | ⟨-, -, hr⟩ := presentRequest_outcome r s <;>
    obtain rfl := Host.Outcome.next.inj (hr.symm.trans h)
  · exact ⟨rfl, rfl, rfl⟩
  · simp at hidle
  · simp at hidle

/-- Settles O54: of an idle block's turns only an accepted request writes more than the fault record, and it makes the
block busy. -/
theorem resultsLastUntilTheNextAcceptedRequest : Obligations.ResultsLastUntilTheNextAcceptedRequest := by
  intro s t h hidle hidle' hreset
  show KeepsResults s t
  obtain ⟨l, ⟨hbusy, -⟩ | ⟨-, rfl⟩ | ⟨r, hr⟩ | ⟨k, rfl⟩⟩ := step_outcome h hreset
  · simp [hidle] at hbusy
  · exact ⟨rfl, rfl, rfl⟩
  · exact keepsResults_presentRequest (s := { s with schedule := l }) hidle' hr
  · exact keepsResults_hostRead { s with schedule := l } k

/-! ### The conversion wait -/

/-- The convert command of `D2` begins ACQ_T (41_temperature.md R121). -/
theorem converts_of_convertT (he : (eventList o)[n]? = some (.command 0x5A#8)) :
    Converts o n 0x5A#8 .readD2 .acqT := by
  obtain ⟨rfl, -⟩ : n = 0 ∧ (o = .getT ∨ o = .getTp ∨ o = .getTph ∨ o = .getTh) := by
    simpa [BusStep.standsAt] using standsAt_of_getElem? he
  exact converts_acqT he

/-- The convert command of `D1` begins ACQ_P, after the read of `D2` (42_pressure.md R141, R142). -/
theorem converts_of_convertP (he : (eventList o)[n]? = some (.command 0x4A#8)) :
    Converts o n 0x4A#8 .readD1 .acqP ∧ ∃ k, k < n ∧ (eventList o)[k]? = some .readD2 := by
  obtain ⟨rfl, ho⟩ : n = 3 ∧ (o = .getTp ∨ o = .getTph) := by
    simpa [BusStep.standsAt] using standsAt_of_getElem? he
  exact ⟨(converts_acqP he).1, 2, by decide, by rcases ho with rfl | rfl <;> rfl⟩

/-- `D2` is read two events after the convert command (41_temperature.md R121). -/
theorem converts_of_readD2 (he : (eventList o)[n]? = some .readD2) :
    ∃ k, n = k + 2 ∧ Converts o k 0x5A#8 .readD2 .acqT := by
  obtain ⟨rfl, ho⟩ := standsAt_of_getElem? he
  exact ⟨0, rfl, converts_acqT (by rcases ho with rfl | rfl | rfl | rfl <;> rfl)⟩

/-- `D1` is read two events after the convert command (42_pressure.md R142). -/
theorem converts_of_readD1 (he : (eventList o)[n]? = some .readD1) :
    ∃ k, n = k + 2 ∧ Converts o k 0x4A#8 .readD1 .acqP := by
  obtain ⟨rfl, ho⟩ := standsAt_of_getElem? he
  exact ⟨3, rfl, (converts_acqP (by rcases ho with rfl | rfl <;> rfl)).1⟩

theorem measure_before_readD3 (he : (eventList o)[n]? = some .readD3) :
    ∃ k, n = k + 1 ∧ (eventList o)[k]? = some (.command 0xE5#8) := by
  obtain ⟨rfl, rfl⟩ | ⟨rfl, rfl⟩ | ⟨rfl, rfl⟩ := standsAt_of_getElem? he <;> exact ⟨_, rfl, rfl⟩

/-- A wait belongs to the convert command before it and to the read after it. -/
theorem wait_between (he : (eventList o)[n]? = some .waitConversion) :
    n + 1 < (eventList o).length ∧ ∃ k, n = k + 1
      ∧ ((eventList o)[k]? = some (.command 0x5A#8) ∨ (eventList o)[k]? = some (.command 0x4A#8)) := by
  obtain ⟨rfl, ho⟩ | ⟨rfl, ho⟩ := standsAt_of_getElem? he
  · rcases ho with rfl | rfl | rfl | rfl <;> exact ⟨by decide, 0, rfl, .inl rfl⟩
  · rcases ho with rfl | rfl <;> exact ⟨by decide, 3, rfl, .inr rfl⟩

/-- Nothing but `seq` and the history moves: the wait takes no answer of the script (92_eei_decisions.md D31). -/
theorem step_waitConversion (hn : s.nextEvent = some .waitConversion) (hs : s.schedule = []) :
    step s = .next { s with
      seq := s.seq + 1, history := s.history ++ [{ event := .sleep s.cfg.convWaitMs, answer := .ok [] }] } := by
  obtain ⟨-, o, ho, he⟩ := State.nextEvent_eq_some.mp hn
  rw [step_of_nextEvent hn hs, runEvent, State.waitConversion,
    State.advance_of_lt (o := o) (by simpa using ho) (by simpa using (wait_between he).1)]
  rfl

/-- Settles O56, by where the entries stand in the event lists; the wait is never the last one. -/
theorem conversionWaitStandsBeforeTheRead : Obligations.ConversionWaitStandsBeforeTheRead := by
  refine ⟨fun o n => ⟨fun he => ?_, fun he => ?_, fun he => (acqRh_last he).1, fun he => ?_, fun he => ?_,
    measure_before_readD3, fun he => (wait_between he).2, fun he => (converts_of_convertP he).2⟩,
    by decide, by decide, fun c => decide_eq_true_iff, fun s => step_waitConversion⟩
  · have hc := converts_of_convertT he
    exact ⟨hc.wait, hc.read⟩
  · obtain ⟨hc, -⟩ := converts_of_convertP he
    exact ⟨hc.wait, hc.read⟩
  · obtain ⟨k, rfl, hc⟩ := converts_of_readD2 he
    exact ⟨k, rfl, hc.command, hc.wait⟩
  · obtain ⟨k, rfl, hc⟩ := converts_of_readD1 he
    exact ⟨k, rfl, hc.command, hc.wait⟩

/-! ### Completion -/

/-- An error never leads back in the event list (10_state.md R33). -/
theorem lt_resumeAt (hph : ph.spans o n) (hlt : n < (eventList o).length) : n < resumeAt o ph := by
  cases ph with
  | init => obtain rfl := hph; exact hlt
  | acqT =>
    obtain ⟨hn, ho⟩ := hph
    rcases ho with rfl | rfl | rfl | rfl <;> simp only [resumeAt] <;> omega
  | acqP =>
    obtain ⟨-, hn, ho⟩ := hph
    rcases ho with rfl | rfl <;> exact hn
  | acqRh => obtain rfl | rfl | rfl := hph <;> exact hlt

/-- Every event of a running operation takes `seq` on, whatever its answer. -/
theorem seq_lt_of_runEvent (hn : s.nextEvent = some e) (h : runEvent e s = .next t) : s.seq < t.seq := by
  obtain ⟨-, o, ho, he⟩ := State.nextEvent_eq_some.mp hn
  obtain ⟨m, hd, rfl⟩ | ⟨-, ph, hph, rfl⟩ := runEvent_cases hn h
  · obtain ⟨-, hseq, -⟩ := sequencer_done hd
    rw [State.advance_seq, hseq]
    exact s.seq.lt_succ_self
  · rw [State.failPhase_seq _ ph (o := o) (by simpa [BusStep.exchanged] using ho)]
    obtain ⟨hlt, -⟩ := List.getElem?_eq_some_iff.mp he
    exact lt_resumeAt (spans_of_standsAt (standsAt_of_getElem? he) hph) hlt

theorem schedule_of_runEvent (hn : s.nextEvent = some e) (h : runEvent e s = .next t) : t.schedule = s.schedule := by
  obtain ⟨m, hd, rfl⟩ | ⟨-, ph, -, rfl⟩ := runEvent_cases hn h
  · simpa using schedule_done hd
  · simp [BusStep.exchanged]

/-- With no turn left, a step of a running operation takes `seq` on and keeps the invariant. -/
theorem step_takes_seq_on (h : Inv s) (hs : s.schedule = []) (hbusy : s.status.busy = true) :
    ∃ t, step s = .next t ∧ Inv t ∧ t.schedule = [] ∧ s.seq < t.seq := by
  obtain ⟨e, hn⟩ := nextEvent_of_inv h hbusy
  obtain ⟨t, hr⟩ := runEvent_answers h hn
  exact ⟨t, (step_of_nextEvent hn hs).trans hr, inv_runEvent h hn hr, (schedule_of_runEvent hn hr).trans hs,
    seq_lt_of_runEvent hn hr⟩

theorem seq_lt_of_busy (h : Inv s) (hbusy : s.status.busy = true) : s.seq < 16 := by
  obtain ⟨e, hn⟩ := nextEvent_of_inv h hbusy
  obtain ⟨o, -, -, hlt, -⟩ := running_of_nextEvent h hn
  exact seq_le_of_lt_length hlt

/-- By induction on the steps left until `seq` would reach 16, which no running operation's does. -/
theorem exists_runSteps_ended (k : Nat) (h : Inv s) (hs : s.schedule = []) (hk : 16 ≤ s.seq + k) :
    ∃ n t, n ≤ k ∧ runSteps n s = .next t ∧ ended t := by
  induction k generalizing s with
  | zero =>
    have hidle : s.status.busy = false := by
      by_contra hbusy
      exact absurd (seq_lt_of_busy h (eq_true_of_ne_false hbusy)) (Nat.not_lt.mpr hk)
    exact ⟨0, s, le_rfl, rfl, hs, hidle⟩
  | succ k ih =>
    cases hbusy : s.status.busy with
    | false => exact ⟨0, s, k.succ.zero_le, rfl, hs, hbusy⟩
    | true =>
      obtain ⟨t, hstep, hinv, hs', hlt⟩ := step_takes_seq_on h hs hbusy
      obtain ⟨n, u, hn, hrun, hend⟩ := ih hinv hs' (by omega)
      exact ⟨n + 1, u, Nat.succ_le_succ hn, by rw [runSteps, hstep]; exact hrun, hend⟩

/-- Settles O57: `seq` grows with every step and stays below 16 while the operation runs. -/
theorem everyOperationCompletes : Obligations.EveryOperationCompletes := fun s h _ hs =>
  exists_runSteps_ended 16 h hs (Nat.le_add_left 16 s.seq)

end Sys2Proof.Machine
end
